-- ==== Sys2Proof/Word.lean ====
section
/-! DEFINITION. The words of the block: bytes, 16-bit halves, and the 16-byte frame (00_scope.md R10, 30_encoding.md R90). -/

namespace Sys2Proof

/-- The source's `u8`: a byte of a frame, a channel level, a version byte (R10). -/
abbrev Byte := BitVec 8

/-- The source's `u16` and `i16`: an address, a checksum, a 16-bit payload member (R10). -/
abbrev Half := BitVec 16

/-- One ICE frame, or one frame buffer: 16 bytes, byte 0 first on the wire (R10, R90). -/
abbrev Frame := Vector Byte 16

end Sys2Proof
end

