-- ==== Sys2Proof/Config.lean ====
section
/-! DEFINITION. The constants the source fixes (00_scope.md R5) and the parameters it leaves open (R6). -/

namespace Sys2Proof

/-- `MAGIC0` (R5, R92). -/
abbrev magic0 : Byte := 0xC5#8
/-- `MAGIC1` (R5, R92). -/
abbrev magic1 : Byte := 0x34#8
/-- `BROADCAST` (R5, R93). -/
abbrev broadcast : Half := 0xFFFF#16
/-- `CRC_SEED` (R5, R120). -/
abbrev crcSeed : Half := 0xFFFF#16
/-- `LEVEL_MAX` (R5). -/
abbrev levelMax : Int := 255
/-- `HALT_ID` (R5, R103). -/
abbrev haltId : Byte := 0xFF#8

/-- The open parameters of R6 (92_eei_decisions.md P1 to P5). No rule of the model depends on a value of theirs;
`Machine.State` carries one `Config` as a field that no step writes (R30, log entry 1). -/
structure Config where
  /-- `PROTO_VERSION` (P1). -/
  protoVersion : Byte
  /-- `FW_MAJOR`, 0 to 15 (P2). -/
  fwMajor : BitVec 4
  /-- `FW_MINOR`, 0 to 15 (P2). -/
  fwMinor : BitVec 4
  /-- `DEFAULT_ADDR` (P3). -/
  defaultAddr : Half
  /-- `BANK_SIZE`, 1 to 255 (P4, D7). -/
  bankSize : Nat
  /-- `ANNOUNCE_INTERVAL_MS`, greater than 0 (P5); no rule reads it. -/
  announceIntervalMs : Nat
  deriving DecidableEq, Repr

/-- The constraints column of R6. -/
abbrev Config.Valid (c : Config) : Prop :=
  1 ≤ c.bankSize ∧ c.bankSize ≤ 255 ∧ 0 < c.announceIntervalMs

/-- The configuration that `Machine.State.reset` is an instance for: the reference deployment's bank of 6 (R7); the
source gives no number for the others (N2 to N5). DESIGN CHOICE, log entry 2: no statement rests on these values. -/
def Config.sample : Config where
  protoVersion := 0
  fwMajor := 0
  fwMinor := 0
  defaultAddr := 0
  bankSize := 6
  announceIntervalMs := 1

end Sys2Proof
end

