-- ==== Sys2Proof/Syntax.lean ====
section
/-! DEFINITION. The commands of the block: one constructor per row of spec/opcode_table.json (30_encoding.md R98, R111). -/

namespace Sys2Proof

/-- A received frame read as a command (00_scope.md R8, 30_encoding.md R107). The operands are those of the textual form
(R111), destination first; 16-bit signed operands are held as their 16 bits (R63). -/
inductive Instr where
  /-- Payload type `0x10`, `DeviceInfo` (R99). -/
  | devinfo (dest address : Half) (version status : Byte)
  /-- Payload type `0x11` with the halt sentinel (R103, R112). -/
  | halt (dest : Half)
  /-- Payload type `0x11`, `SolenoidControl` (R102). -/
  | solenoid (dest : Half) (id : Byte) (value : Half)
  /-- Payload type `0x12`, `Temperature` (R104). -/
  | temp (dest value : Half)
  /-- Payload type `0x13`, `Acceleration` (R105). -/
  | accel (dest x y z : Half)
  /-- Payload type `0x14`, `AngularVelocity` (R105). -/
  | angvel (dest x y z : Half)
  /-- Payload type `0x15`, `Direction` (R105). -/
  | direction (dest x y z : Half)
  deriving DecidableEq, Repr

/-- The destination operand of a command (R93). -/
def Instr.dest : Instr → Half
  | .devinfo d _ _ _ => d
  | .halt d => d
  | .solenoid d _ _ => d
  | .temp d _ => d
  | .accel d _ _ _ => d
  | .angvel d _ _ _ => d
  | .direction d _ _ _ => d

end Sys2Proof
end

