-- ==== Sys2Proof/WellFormed.lean ====
section
/-! DEFINITION. Which command terms are the reading of some frame (30_encoding.md R107, R109, R112). -/

namespace Sys2Proof

/-- A term of `Instr` is well formed when it is its own reading. `SOLENOID dest, 0xFF, 0` is not: those bytes are the halt
sentinel (R103) and are read as `HALT` (R107). Every other value of every operand is encodable; an id at or above `BANK_SIZE`
is well formed, and rejected when it is executed (R109, R204). -/
abbrev Instr.WellFormed : Instr → Prop
  | .devinfo _ _ _ _ => True
  | .halt _ => True
  | .solenoid _ id value => ¬ (id = haltId ∧ value = 0)
  | .temp _ _ => True
  | .accel _ _ _ _ => True
  | .angvel _ _ _ _ => True
  | .direction _ _ _ _ => True

/-- `Instr.WellFormed` as a check that can be run. -/
def Instr.wellFormed : Instr → Bool
  | .devinfo _ _ _ _ => true
  | .halt _ => true
  | .solenoid _ id value => !(id == haltId && value == 0)
  | .temp _ _ => true
  | .accel _ _ _ _ => true
  | .angvel _ _ _ _ => true
  | .direction _ _ _ _ => true

end Sys2Proof
end

