-- ==== Sys2Proof/Decode.lean ====
section
/-! DEFINITION. FrameCodec (40_framecodec.md R120 to R125), the frame's fields (30_encoding.md R91 to R106), the decoder
(R107), the encoder, and the opcode table (R113). -/

namespace Sys2Proof

/-! ## Arithmetic helpers (00_scope.md R11) -/

/-- `lo8(v)`: the low byte of a 16-bit value (R11). -/
def lo8 (v : Half) : Byte := v.setWidth 8

/-- `hi8(v)`: the high byte of a 16-bit value (R11). -/
def hi8 (v : Half) : Byte := (v >>> 8).setWidth 8

/-- `le16(lo, hi)`: two bytes to a 16-bit value, little-endian (R11, R60). -/
def le16 (lo hi : Byte) : Half := hi ++ lo

/-- `s16(u)`: 16 bits read as a two's-complement integer (R11, R63). -/
def s16 (u : Half) : Int :=
  if 32768 ≤ u.toNat then (u.toNat : Int) - 65536 else u.toNat

/-- `u16(s)`: a signed 16-bit value to its bits (R11). -/
def u16 (n : Int) : Half := BitVec.ofInt 16 n

/-! ## The checksum (R120, R121) -/

/-- One byte of the checksum loop of R120. The 16-bit shifts drop bits 16 and above, as `trunc16` does; every term is
combined with exclusive-or (90_conflicts.md C1). -/
def crcByte (crc : Half) (b : Byte) : Half :=
  let tmp0 := hi8 crc ^^^ b
  let tmp := tmp0 ^^^ (tmp0 >>> 4)
  let t := tmp.setWidth 16
  (crc <<< 8) ^^^ (t <<< 12) ^^^ (t <<< 5) ^^^ t

/-- `checksum(bytes)` (R120). -/
def checksum (bytes : List Byte) : Half := bytes.foldl crcByte crcSeed

/-! ## The fields of a frame (R91) -/

/-- `dest`, offsets 2 and 3 (R93). -/
def Frame.dest (F : Frame) : Half := le16 F[2] F[3]

/-- `ptype`, offset 5 (R95). -/
def Frame.ptype (F : Frame) : Byte := F[5]

/-- `csum`, offsets 14 and 15 (R97, R62). -/
def Frame.csum (F : Frame) : Half := le16 F[14] F[15]

/-- `F[4..13]`, the ten bytes the checksum covers (R121). -/
def Frame.covered (F : Frame) : List Byte :=
  [F[4], F[5], F[6], F[7], F[8], F[9], F[10], F[11], F[12], F[13]]

/-- The 16 bytes in wire order (R10, R69). -/
def Frame.bytes (F : Frame) : List Byte := F.toList

/-! ## build and validate (R123, R124) -/

/-- `build(t, d, p)` (R123): magic, destination, version, type, the payload padded with zeros to 8 bytes (R106), and the
checksum over bytes 4 to 13, little-endian. A payload has at most 8 bytes (R123); bytes after the eighth have no place. -/
def build (ver t : Byte) (d : Half) (p : List Byte) : Frame :=
  let c := checksum [ver, t, p.getD 0 0, p.getD 1 0, p.getD 2 0, p.getD 3 0, p.getD 4 0, p.getD 5 0, p.getD 6 0, p.getD 7 0]
  #v[magic0, magic1, lo8 d, hi8 d, ver, t,
     p.getD 0 0, p.getD 1 0, p.getD 2 0, p.getD 3 0, p.getD 4 0, p.getD 5 0, p.getD 6 0, p.getD 7 0,
     lo8 c, hi8 c]

/-- `DecodeError` (R125). -/
inductive DecodeError where
  | badMagic
  | badChecksum
  | badVersion
  deriving DecidableEq, Repr

/-- `validate(B)` (R124): magic, then checksum, then version; the first failure is the one returned. -/
def validate (ver : Byte) (B : Frame) : Except DecodeError Frame :=
  if B[0] ≠ magic0 ∨ B[1] ≠ magic1 then .error .badMagic
  else if B.csum ≠ checksum B.covered then .error .badChecksum
  else if B[4] ≠ ver then .error .badVersion
  else .ok B

/-! ## Payload variants (R99 to R105) -/

/-- The bytes of `DeviceInfo` (R99). -/
def deviceInfoPayload (address : Half) (version status : Byte) : List Byte :=
  [lo8 address, hi8 address, version, status]

/-- The bytes of `SolenoidControl` (R102). -/
def solenoidPayload (id : Byte) (value : Half) : List Byte := [id, lo8 value, hi8 value]

/-- The bytes of `Scalar16` (R104). -/
def scalar16Payload (value : Half) : List Byte := [lo8 value, hi8 value]

/-- The bytes of `Vector3x16` (R105). -/
def vector3x16Payload (x y z : Half) : List Byte :=
  [lo8 x, hi8 x, lo8 y, hi8 y, lo8 z, hi8 z]

/-! ## The decoder (R107) -/

/-- Why 16 or another number of bytes are no command. -/
inductive Reject where
  /-- The input has not the one frame length (R90). -/
  | notAFrame
  /-- The bytes 0 and 1 are not `C5 34`, so no row of the table matches (R92, R113). -/
  | noMagic
  /-- The payload type is outside `0x10` to `0x15`: `UNKNOWN(t)` (R107, R108). -/
  | unknownType (t : Byte)
  deriving DecidableEq, Repr

/-- `decode(F)` (R107): by the payload type, and for `0x11` by the halt sentinel before `id` is used (R231). Bytes 4, 14 and
15 and the unused payload bytes are not read (R106, R113). -/
def decode (F : Frame) : Except Reject Instr :=
  if F[0] ≠ magic0 ∨ F[1] ≠ magic1 then .error .noMagic
  else if F.ptype = 0x10#8 then .ok (.devinfo F.dest (le16 F[6] F[7]) F[8] F[9])
  else if F.ptype = 0x11#8 then
    if F[6] = haltId ∧ le16 F[7] F[8] = 0 then .ok (.halt F.dest)
    else .ok (.solenoid F.dest F[6] (le16 F[7] F[8]))
  else if F.ptype = 0x12#8 then .ok (.temp F.dest (le16 F[6] F[7]))
  else if F.ptype = 0x13#8 then .ok (.accel F.dest (le16 F[6] F[7]) (le16 F[8] F[9]) (le16 F[10] F[11]))
  else if F.ptype = 0x14#8 then .ok (.angvel F.dest (le16 F[6] F[7]) (le16 F[8] F[9]) (le16 F[10] F[11]))
  else if F.ptype = 0x15#8 then .ok (.direction F.dest (le16 F[6] F[7]) (le16 F[8] F[9]) (le16 F[10] F[11]))
  else .error (.unknownType F.ptype)

/-- Sixteen bytes as a frame (R90). -/
def frameOfBytes (bs : List Byte) : Option Frame :=
  if h : bs.length = 16 then some ⟨bs.toArray, by simp [h]⟩ else none

/-- The decoder on any bytes (R90, R107). -/
def decodeBytes (bs : List Byte) : Except Reject Instr :=
  match frameOfBytes bs with
  | none => .error .notAFrame
  | some F => decode F

/-! ## The encoder (R98 to R106, R111) -/

/-- The payload type of a command (R98). -/
def Instr.typeCode : Instr → Byte
  | .devinfo _ _ _ _ => 0x10#8
  | .halt _ => 0x11#8
  | .solenoid _ _ _ => 0x11#8
  | .temp _ _ => 0x12#8
  | .accel _ _ _ _ => 0x13#8
  | .angvel _ _ _ _ => 0x14#8
  | .direction _ _ _ _ => 0x15#8

/-- The payload bytes of a command, without the zero padding (R99 to R105; `HALT` by R112). -/
def Instr.payload : Instr → List Byte
  | .devinfo _ address version status => deviceInfoPayload address version status
  | .halt _ => solenoidPayload haltId 0
  | .solenoid _ id value => solenoidPayload id value
  | .temp _ value => scalar16Payload value
  | .accel _ x y z => vector3x16Payload x y z
  | .angvel _ x y z => vector3x16Payload x y z
  | .direction _ x y z => vector3x16Payload x y z

/-- The 16 bytes a mnemonic line stands for: `build(type, dest, payload)` with the version byte `ver` (R111). -/
def encode (ver : Byte) (i : Instr) : Frame := build ver i.typeCode i.dest i.payload

/-! ## spec/opcode_table.json (R113) -/

/-- The mnemonic of a command's row (R98). -/
def Instr.mnemonic : Instr → String
  | .devinfo _ _ _ _ => "DEVINFO"
  | .halt _ => "HALT"
  | .solenoid _ _ _ => "SOLENOID"
  | .temp _ _ => "TEMP"
  | .accel _ _ _ _ => "ACCEL"
  | .angvel _ _ _ _ => "ANGVEL"
  | .direction _ _ _ _ => "DIRECTION"

/-- The frame bytes a command is read from: the magic, the destination, the payload type and the members of its variant (the
`fields` of its row, R113; R99 to R105). -/
def Instr.operandBytes : Instr → List (Fin 16)
  | .devinfo _ _ _ _ => [0, 1, 2, 3, 5, 6, 7, 8, 9]
  | .halt _ => [0, 1, 2, 3, 5, 6, 7, 8]
  | .solenoid _ _ _ => [0, 1, 2, 3, 5, 6, 7, 8]
  | .temp _ _ => [0, 1, 2, 3, 5, 6, 7]
  | .accel _ _ _ _ => [0, 1, 2, 3, 5, 6, 7, 8, 9, 10, 11]
  | .angvel _ _ _ _ => [0, 1, 2, 3, 5, 6, 7, 8, 9, 10, 11]
  | .direction _ _ _ _ => [0, 1, 2, 3, 5, 6, 7, 8, 9, 10, 11]

/-- One row of the table: a frame matches when `F[k] and mask[k] = pattern[k]` for every `k` (R113). -/
structure OpcodeRow where
  mnemonic : String
  pattern : Frame
  mask : Frame
  deriving DecidableEq, Repr

/-- A row that fixes the magic and the payload type only. -/
def typeRow (mnemonic : String) (t : Byte) : OpcodeRow where
  mnemonic := mnemonic
  pattern := #v[0xC5, 0x34, 0, 0, 0, t, 0, 0, 0, 0, 0, 0, 0, 0, 0, 0]
  mask := #v[0xFF, 0xFF, 0, 0, 0, 0xFF, 0, 0, 0, 0, 0, 0, 0, 0, 0, 0]

/-- The table in increasing `priority` (R113): the `HALT` row (priority 0) stands before `SOLENOID` (priority 1). -/
def opcodeTable : List OpcodeRow :=
  [ { mnemonic := "HALT"
      pattern := #v[0xC5, 0x34, 0, 0, 0, 0x11, 0xFF, 0, 0, 0, 0, 0, 0, 0, 0, 0]
      mask := #v[0xFF, 0xFF, 0, 0, 0, 0xFF, 0xFF, 0xFF, 0xFF, 0, 0, 0, 0, 0, 0, 0] },
    typeRow "DEVINFO" 0x10,
    typeRow "SOLENOID" 0x11,
    typeRow "TEMP" 0x12,
    typeRow "ACCEL" 0x13,
    typeRow "ANGVEL" 0x14,
    typeRow "DIRECTION" 0x15 ]

/-- `F` matches the row (R113). -/
def OpcodeRow.hits (r : OpcodeRow) (F : Frame) : Bool :=
  (List.finRange 16).all fun k => F[k] &&& r.mask[k] == r.pattern[k]

/-- The mnemonic of the first row a frame matches (R113). -/
def tableMnemonic (F : Frame) : Option String := (opcodeTable.find? (·.hits F)).map (·.mnemonic)

/-! ## The host's numbering -/

/-- Byte `k` of an instruction given as a number: bit 0 is the least significant bit of byte 0; bits at `nbits` and above
are 0. -/
def tableByte (nbits w k : Nat) : Byte := BitVec.ofNat 8 (w % 2 ^ nbits / 2 ^ (8 * k))

/-- The 16 bytes of a numbered instruction in wire order. -/
def tableFrame (nbits w : Nat) : Frame :=
  #v[tableByte nbits w 0, tableByte nbits w 1, tableByte nbits w 2, tableByte nbits w 3,
     tableByte nbits w 4, tableByte nbits w 5, tableByte nbits w 6, tableByte nbits w 7,
     tableByte nbits w 8, tableByte nbits w 9, tableByte nbits w 10, tableByte nbits w 11,
     tableByte nbits w 12, tableByte nbits w 13, tableByte nbits w 14, tableByte nbits w 15]

/-- The instruction the decoder reads from the numbered bits; `none` where it rejects them. -/
def decodeTableWord (nbits w : Nat) : Option Instr :=
  match decode (tableFrame nbits w) with
  | .ok i => some i
  | .error _ => none

end Sys2Proof
end

