-- ==== Sys2Proof/Machine/State.lean ====
section
/-! DEFINITION. The state of the block (10_state.md R20 to R42), its inputs and outputs, and its reset. -/

namespace Sys2Proof.Machine

/-! ## The block's own types -/

/-- The two output channels of an actuator: "high" (raise) and "low" (lower) (R21). -/
inductive Channel where
  | hi
  | lo
  deriving DecidableEq, Repr

/-- One actuator register `ACT[i]` (R21): the enable bit and the two levels last written (R22). -/
structure Actuator where
  en : Bool
  hi : Byte
  lo : Byte
  deriving DecidableEq, Repr

/-- `rx_state` (R24). -/
inductive RxState where
  | scan
  | collect
  deriving DecidableEq, Repr

/-- `sched_state` (R28). -/
inductive SchedState where
  | idle
  | armed
  deriving DecidableEq, Repr

/-- `phase` (R29): the next boot step, the steady state, or start-up aborted. -/
inductive Phase where
  | boot (k : Fin 5)
  | run
  | failed
  deriving DecidableEq, Repr

/-! ## Outputs -/

/-- An event on the report port with its information fields (60_exceptions.md R221 to R229). -/
inductive Report where
  | badMagic (b1 : Byte)
  | badChecksum (received computed : Half)
  | badVersion (v : Byte)
  | misaddressed (dest : Half)
  | unknownType (t : Byte)
  | actIdRange (id : Byte)
  | peerInfo (address : Half) (version status : Byte)
  | fatalChannelInit
  | fatalTimerArm
  deriving DecidableEq, Repr

/-- A channel-level write event `(i, ch, v)` (R38). -/
structure PwmWrite where
  index : Nat
  channel : Channel
  level : Byte
  deriving DecidableEq, Repr

/-! ## Inputs -/

/-- The three values of `thermal_status` (R33). -/
inductive Thermal where
  | none
  | temperatureHigh
  | temperatureCritical
  deriving DecidableEq, Repr

/-- The boot-time inputs (R34). -/
structure BootInputs where
  /-- What the address store's `load()` answers (R240). -/
  storedAddr : Option Half
  channelInitOk : Bool
  timerArmOk : Bool
  deriving DecidableEq, Repr

/-- An operation of the host port (R35). -/
inductive HostOp where
  | enable (i : Nat)
  | disable (i : Nat)
  | announce
  | sendTemp (dest value : Half)
  | sendAccel (dest x y z : Half)
  deriving DecidableEq, Repr

/-- One entry of the schedule: which agent is offered a step next (00_scope.md R9), or what the environment does
(R31 to R34, R245). Log entry 4. -/
inductive Turn where
  /-- The BOOT agent (70_reset_and_hazards.md R261). -/
  | boot
  /-- The RX agent (41_receive.md R140). -/
  | rx
  /-- A tick of the periodic timer, which enables the TIMER agent (R32, R166). -/
  | tick
  /-- An operation on the host port, which enables the HOST agent (R35). -/
  | host (op : HostOp)
  /-- The environment supplies bytes on `rx_in` (R31). -/
  | deliver (bytes : List Byte)
  /-- The environment changes `thermal_status` (R33). -/
  | thermal (v : Thermal)
  /-- The whole node is reset, with the boot-time inputs of the new start (R245, R260). -/
  | reset (inputs : BootInputs)
  deriving DecidableEq, Repr

/-! ## State -/

/-- The machine. The first group is the block's state (R20), the second its output histories (R36 to R38), the third what
R41 calls the parameters of the step relation: the configuration, the environment's inputs and the schedule. -/
structure State where
  /-- `ACT[0..BANK_SIZE-1]` (R21). -/
  bank : List Actuator
  /-- `rx_state` (R24). -/
  rxState : RxState
  /-- `rx_count`, 0 to 15 (R24). -/
  rxCount : Fin 16
  /-- `RXBUF[0..15]` (R25). -/
  rxBuf : Frame
  /-- `TXBUF[0..15]` (R26). -/
  txBuf : Frame
  /-- `NODE_ADDR` (R27). -/
  nodeAddr : Half
  /-- `sched_state` (R28). -/
  sched : SchedState
  /-- `phase` (R29). -/
  phase : Phase
  /-- `tx_out`, oldest byte first (R36). -/
  txOut : List Byte
  /-- `report_out`, oldest event first (R37). -/
  reportOut : List Report
  /-- `pwm_out`, oldest event first (R38). -/
  pwmOut : List PwmWrite
  /-- The configuration (R30); no step writes it. -/
  cfg : Config
  /-- The unread bytes of `rx_in` that have arrived (R31). -/
  rxIn : List Byte
  /-- `thermal_status` (R33). -/
  thermal : Thermal
  /-- `stored_addr`, `channel_init_ok`, `timer_arm_ok` (R34). -/
  bootIn : BootInputs
  /-- The schedule: which agent or input comes next (R9, R32, R35). -/
  turns : List Turn
  deriving DecidableEq, Repr

/-- Why the machine stops. -/
inductive Fault where
  /-- Raised by every step offered in `phase = FAILED`, but for a reset: no agent has a step there (R267). Safe: R267 asks
  for a fault outcome. -/
  | startupFailed
  deriving DecidableEq, Repr

/-- Why the machine refuses a step. -/
inductive Refusal where
  /-- An instruction without a meaning; no arm of `exec` answers it. -/
  | notModelled (mnemonic : String)
  /-- Raised by a host `ENABLE(i)` or `DISABLE(i)` with `i >= BANK_SIZE`: not an operand the port accepts, no step (R184, R185,
  93_implementation_defined.md U13). Safe: the spec refuses it. -/
  | hostIndexOutOfRange (i : Nat)
  deriving DecidableEq, Repr

/-! ## Reset (R42, R260) -/

/-- `ACT[i]` after reset: disabled, both levels 0 (R42). -/
def Actuator.atReset : Actuator where
  en := false
  hi := 0
  lo := 0

/-- The block after reset under a configuration and boot-time inputs (R42). `RXBUF`, `TXBUF` and `NODE_ADDR` are
unspecified there; the model names zero. DESIGN CHOICE, log entry 3, unsafe. -/
def State.resetWith (cfg : Config) (inputs : BootInputs) : State where
  bank := List.replicate cfg.bankSize Actuator.atReset
  rxState := .scan
  rxCount := 0
  rxBuf := Vector.replicate 16 0
  txBuf := Vector.replicate 16 0
  nodeAddr := 0
  sched := .idle
  phase := .boot 0
  txOut := []
  reportOut := []
  pwmOut := []
  cfg := cfg
  rxIn := []
  thermal := .none
  bootIn := inputs
  turns := []

/-- The boot-time inputs of `State.reset`: nothing stored, both initializations succeed. DESIGN CHOICE, log entry 5. -/
def BootInputs.sample : BootInputs where
  storedAddr := none
  channelInitOk := true
  timerArmOk := true

/-- The machine right after reset, for the sample configuration and inputs (R42; log entries 2, 3 and 5). -/
def State.reset : State := State.resetWith Config.sample BootInputs.sample

end Sys2Proof.Machine
end

