-- ==== Sys2Proof/Machine/Operands.lean ====
section
/-! DEFINITION. What the operands of commands, sends and the filter stand for: the motion encoding (43_actuator.md R181),
the codes of R100 and R101, the address filter (41_receive.md R144), and the report codes (60_exceptions.md R221). -/

namespace Sys2Proof.Machine

/-- `min(n, 255)` as a channel level; used for `n >= 0` only (R181). -/
def levelOf (n : Int) : Byte := BitVec.ofInt 8 (min n levelMax)

/-- `motion(value)` (R181): the pair (high level, low level). The negation is on integers, so -32768 gives 255 (D28). -/
def motion (value : Half) : Byte × Byte :=
  if 0 < s16 value then (levelOf (s16 value), 0)
  else if s16 value < 0 then (0, levelOf (-(s16 value)))
  else (0, 0)

/-- `code(thermal_status)` (R101, R161). -/
def Thermal.code : Thermal → Byte
  | .none => 0
  | .temperatureHigh => 1
  | .temperatureCritical => 2

/-- `FW_VERSION = FW_MAJOR * 16 + FW_MINOR` (R30, R100). -/
def fwVersion (c : Config) : Byte := (c.fwMajor.setWidth 8 <<< 4) ||| c.fwMinor.setWidth 8

/-- The address filter (R144): broadcast, or all 16 bits equal to `NODE_ADDR`. -/
def accepts (nodeAddr dest : Half) : Bool := dest == broadcast || dest == nodeAddr

/-- The "instance id", the low byte of `NODE_ADDR` (R27); no rule reads it (N24). -/
def State.instanceId (s : State) : Byte := lo8 s.nodeAddr

/-- The class column of R221. -/
inductive ReportClass where
  | recoverable
  | informational
  | fatal
  deriving DecidableEq, Repr

/-- The code column of R221. -/
def Report.code : Report → Byte
  | .badMagic _ => 0x01
  | .badChecksum _ _ => 0x02
  | .badVersion _ => 0x03
  | .misaddressed _ => 0x04
  | .unknownType _ => 0x05
  | .actIdRange _ => 0x06
  | .peerInfo _ _ _ => 0x10
  | .fatalChannelInit => 0xF0
  | .fatalTimerArm => 0xF1

/-- The class of a report (R221). -/
def Report.cls : Report → ReportClass
  | .badMagic _ => .recoverable
  | .badChecksum _ _ => .recoverable
  | .badVersion _ => .recoverable
  | .misaddressed _ => .recoverable
  | .unknownType _ => .recoverable
  | .actIdRange _ => .recoverable
  | .peerInfo _ _ _ => .informational
  | .fatalChannelInit => .fatal
  | .fatalTimerArm => .fatal

/-- The level of one channel (R21). -/
def Actuator.level (a : Actuator) : Channel → Byte
  | .hi => a.hi
  | .lo => a.lo

/-- `ACT[i].ch <- v` on the register (R12). -/
def Actuator.setLevel (a : Actuator) (ch : Channel) (v : Byte) : Actuator :=
  match ch with
  | .hi => { a with hi := v }
  | .lo => { a with lo := v }

/-- `ACT[i].en <- e` on the register (R184, R185). -/
def Actuator.setEn (a : Actuator) (e : Bool) : Actuator := { a with en := e }

end Sys2Proof.Machine
end

