-- ==== Sys2Proof/Machine/Ops.lean ====
section
/-! DEFINITION. The named operations on the state: the primitives of 00_scope.md R12, the report (60_exceptions.md R220, the
block's exception), `fatal` (70_reset_and_hazards.md R267), the channel write and what is built from it (43_actuator.md R180
to R185), and the send (42_transmit.md R160). -/

namespace Sys2Proof.Machine

/-! ## Writes of one field -/

/-- Write the actuator bank. -/
def State.setBank (s : State) (b : List Actuator) : State := { s with bank := b }

/-- Write the receive position `(rx_state, rx_count)` (R24). -/
def State.setRxPos (s : State) (st : RxState) (n : Fin 16) : State := { s with rxState := st, rxCount := n }

/-- Write `RXBUF`. -/
def State.setRxBuf (s : State) (F : Frame) : State := { s with rxBuf := F }

/-- Write `TXBUF`. -/
def State.setTxBuf (s : State) (F : Frame) : State := { s with txBuf := F }

/-- Write `NODE_ADDR`. -/
def State.setNodeAddr (s : State) (a : Half) : State := { s with nodeAddr := a }

/-- Write `sched_state`. -/
def State.setSched (s : State) (v : SchedState) : State := { s with sched := v }

/-- Write `phase`. -/
def State.setPhase (s : State) (p : Phase) : State := { s with phase := p }

/-- What the environment leaves unread on `rx_in`. -/
def State.setRxIn (s : State) (bs : List Byte) : State := { s with rxIn := bs }

/-- The environment's `thermal_status`. -/
def State.setThermal (s : State) (v : Thermal) : State := { s with thermal := v }

/-- The rest of the schedule. -/
def State.setTurns (s : State) (ts : List Turn) : State := { s with turns := ts }

/-- `tx_emit(F)` (R69): the 16 bytes in order, contiguous. -/
def State.txEmit (s : State) (F : Frame) : State := { s with txOut := s.txOut ++ F.bytes }

/-- `pwm_write(i, ch, v)` (R38). -/
def State.pwmWrite (s : State) (w : PwmWrite) : State := { s with pwmOut := s.pwmOut ++ [w] }

/-! ## Reports: the block's exceptions -/

/-- `report E(info)` (R220, R232): append the event and go on. It saves nothing, changes no mode, and there is no return
from it (R233). -/
def State.report (s : State) (e : Report) : State := { s with reportOut := s.reportOut ++ [e] }

/-- `fatal E` (R229, R267): report the event and enter `FAILED`. -/
def State.fatal (s : State) (e : Report) : State := (s.report e).setPhase .failed

/-! ## The actuator bank -/

/-- `chan_write(i, ch, v)` (R180): gated by the enable bit, debounced per channel; a performed write changes the level and
emits one event. -/
def chanWrite (i : Nat) (ch : Channel) (v : Byte) (s : State) : State :=
  match s.bank[i]? with
  | none => s
  | some a =>
    if a.en = false then s
    else if a.level ch = v then s
    else (s.setBank (s.bank.set i (a.setLevel ch v))).pwmWrite ⟨i, ch, v⟩

/-- `ACT_SET(i, value)` (R182): high channel first, then low. -/
def actSet (i : Nat) (value : Half) (s : State) : State :=
  chanWrite i .lo (motion value).2 (chanWrite i .hi (motion value).1 s)

/-- The two zero writes of `HALT_ALL` for one actuator (R183). -/
def haltOne (s : State) (i : Nat) : State := chanWrite i .lo 0 (chanWrite i .hi 0 s)

/-- `HALT_ALL` (R183): every actuator in ascending order; no index is taken from a frame. -/
def haltAll (s : State) : State := (List.range s.cfg.bankSize).foldl haltOne s

/-- `ACT[i].en <- e` (R184, R185): nothing else changes. -/
def setEnable (e : Bool) (s : State) (i : Nat) : State :=
  match s.bank[i]? with
  | none => s
  | some a => s.setBank (s.bank.set i (a.setEn e))

/-- `ENABLE(i)` for every `i` (R263). -/
def enableAll (s : State) : State := (List.range s.cfg.bankSize).foldl (setEnable true) s

/-! ## The transmit path -/

/-- `send(t, d, p)` (R160): build into `TXBUF` and emit, in one step. -/
def send (t : Byte) (d : Half) (p : List Byte) (s : State) : State :=
  let F := build s.cfg.protoVersion t d p
  (s.setTxBuf F).txEmit F

/-- `ANNOUNCE` (R161). -/
def announce (s : State) : State :=
  send 0x10#8 broadcast (deviceInfoPayload s.nodeAddr (fwVersion s.cfg) s.thermal.code) s

/-- `SEND_TEMP(dest, value)` (R162). -/
def sendTemp (dest value : Half) (s : State) : State := send 0x12#8 dest (scalar16Payload value) s

/-- `SEND_ACCEL(dest, x, y, z)` (R163). -/
def sendAccel (dest x y z : Half) (s : State) : State := send 0x13#8 dest (vector3x16Payload x y z) s

end Sys2Proof.Machine
end

