-- ==== Sys2Proof/Machine/Boot.lean ====
section
/-! DEFINITION. The BOOT agent (70_reset_and_hazards.md R261 to R267) and the reset of the running node (R245, R260). -/

namespace Sys2Proof.Machine

/-- `BOOT(0)`: load the node address (R262). -/
def boot0 (s : State) : State :=
  (s.setNodeAddr (s.bootIn.storedAddr.getD s.cfg.defaultAddr)).setPhase (.boot 1)

/-- `BOOT(1)`: enable all actuators (R263). -/
def boot1 (s : State) : State := (enableAll s).setPhase (.boot 2)

/-- `BOOT(2)`: open the link layer (R264). -/
def boot2 (s : State) : State :=
  if s.bootIn.channelInitOk then s.setPhase (.boot 3) else s.fatal .fatalChannelInit

/-- `BOOT(3)`: arm the broadcast scheduler (R265). -/
def boot3 (s : State) : State :=
  if s.bootIn.timerArmOk then (s.setSched .armed).setPhase (.boot 4) else s.fatal .fatalTimerArm

/-- `BOOT(4)`: the unconditional announcement (R266). -/
def boot4 (s : State) : State := (announce s).setPhase .run

/-- The boot step that `BOOT(k)` names (R261). -/
def bootStep (k : Fin 5) (s : State) : State :=
  match k with
  | 0 => boot0 s
  | 1 => boot1 s
  | 2 => boot2 s
  | 3 => boot3 s
  | 4 => boot4 s

/-- The BOOT agent: a step only when `phase` is a `BOOT(k)` (R261). -/
def bootAgent (s : State) : Host.Outcome State Fault Refusal :=
  match s.phase with
  | .boot k => .next (bootStep k s)
  | _ => .next s

/-- A reset of the whole node (R260, R245): the block's state as `State.resetWith` gives it, the histories empty, new
boot-time inputs. The environment's `rx_in` and `thermal_status`, the schedule and the configuration are not the block's
state and stay. Log entry 6. -/
def nodeReset (inputs : BootInputs) (s : State) : State :=
  (((State.resetWith s.cfg inputs).setRxIn s.rxIn).setThermal s.thermal).setTurns s.turns

end Sys2Proof.Machine
end

