-- ==== Sys2Proof/Machine/Observe.lean ====
section
/-! DEFINITION. `DEVINFO` when received (44_dispatch.md R201). -/

namespace Sys2Proof.Machine

/-- R201: `report PEER_INFO(address, version, status)`; no state of the block changes. The destination makes no difference
(R200). -/
def execDevinfo (_dest address : Half) (version status : Byte) (s : State) : Host.Outcome State Fault Refusal :=
  .next (s.report (.peerInfo address version status))

end Sys2Proof.Machine
end

