-- ==== Sys2Proof/Machine/Solenoid.lean ====
section
/-! DEFINITION. `HALT` and `SOLENOID` when received (44_dispatch.md R202 to R204). -/

namespace Sys2Proof.Machine

/-- R202: `HALT_ALL`. The destination makes no difference (R200). -/
def execHalt (_dest : Half) (s : State) : Host.Outcome State Fault Refusal :=
  .next (haltAll s)

/-- R203 for `id < BANK_SIZE`: `ACT_SET(id, value)`. R204 otherwise: `report ACT_ID_RANGE(id)`, no actuator changes. The
destination makes no difference (R200). -/
def execSolenoid (_dest : Half) (id : Byte) (value : Half) (s : State) : Host.Outcome State Fault Refusal :=
  if id.toNat < s.cfg.bankSize then .next (actSet id.toNat value s)
  else .next (s.report (.actIdRange id))

end Sys2Proof.Machine
end

