-- ==== Sys2Proof/Machine/Telemetry.lean ====
section
/-! DEFINITION. The telemetry types when received: rejected and reported (44_dispatch.md R205 to R208). Their operands are
not used. -/

namespace Sys2Proof.Machine

/-- R205: `report UNKNOWN_TYPE(0x12)`; no state changes. -/
def execTemp (_dest _value : Half) (s : State) : Host.Outcome State Fault Refusal :=
  .next (s.report (.unknownType 0x12#8))

/-- R206: `report UNKNOWN_TYPE(0x13)`; no state changes. -/
def execAccel (_dest _x _y _z : Half) (s : State) : Host.Outcome State Fault Refusal :=
  .next (s.report (.unknownType 0x13#8))

/-- R207: `report UNKNOWN_TYPE(0x14)`; no state changes. -/
def execAngvel (_dest _x _y _z : Half) (s : State) : Host.Outcome State Fault Refusal :=
  .next (s.report (.unknownType 0x14#8))

/-- R208: `report UNKNOWN_TYPE(0x15)`; no state changes. -/
def execDirection (_dest _x _y _z : Half) (s : State) : Host.Outcome State Fault Refusal :=
  .next (s.report (.unknownType 0x15#8))

end Sys2Proof.Machine
end

