-- ==== Sys2Proof/Machine/Dispatch.lean ====
section
/-! DEFINITION. The meaning of each command (44_dispatch.md R200), one arm per row of spec/opcode_table.json. -/

namespace Sys2Proof.Machine

def exec (i : Instr) (s : State) : Host.Outcome State Fault Refusal :=
  match i with
  | .devinfo dest address version status => Sys2Proof.Machine.execDevinfo dest address version status s
  | .halt dest => Sys2Proof.Machine.execHalt dest s
  | .solenoid dest id value => Sys2Proof.Machine.execSolenoid dest id value s
  | .temp dest value => Sys2Proof.Machine.execTemp dest value s
  | .accel dest x y z => Sys2Proof.Machine.execAccel dest x y z s
  | .angvel dest x y z => Sys2Proof.Machine.execAngvel dest x y z s
  | .direction dest x y z => Sys2Proof.Machine.execDirection dest x y z s

end Sys2Proof.Machine
end

