-- ==== Sys2Proof/Machine/Receive.lean ====
section
/-! DEFINITION. The receive path: the RX agent byte by byte (41_receive.md R140 to R145), and the same as a function of the
byte stream (R146). -/

namespace Sys2Proof.Machine

/-- The report of R143 for a candidate that validation or the filter rejects; `none` for an accepted frame. -/
def rejection (ver : Byte) (nodeAddr : Half) (B : Frame) : Option Report :=
  match validate ver B with
  | .error .badMagic => some (.badMagic B[1])
  | .error .badChecksum => some (.badChecksum B.csum (checksum B.covered))
  | .error .badVersion => some (.badVersion B[4])
  | .ok F => if accepts nodeAddr F.dest then none else some (.misaddressed F.dest)

/-- `dispatch(F)` (R200): the decoded command's meaning, or `UNKNOWN_TYPE(t)` for a type outside the table (R209). -/
def dispatch (F : Frame) (s : State) : Host.Outcome State Fault Refusal :=
  match decode F with
  | .ok i => exec i s
  | .error _ => .next (s.report (.unknownType F.ptype))

/-- The SCAN step (R141). -/
def scanByte (b : Byte) (s : State) : State :=
  if b = magic0 then (s.setRxBuf (s.rxBuf.set 0 b)).setRxPos .collect 1 else s

/-- The COLLECT step, not the last byte (R142). -/
def collectByte (b : Byte) (s : State) : State :=
  (s.setRxBuf (s.rxBuf.set s.rxCount.val b)).setRxPos .collect (s.rxCount + 1)

/-- What a completed candidate leads to (R143 to R145): a report, or dispatch in the same step. -/
def finishCandidate (F : Frame) (s : State) : Host.Outcome State Fault Refusal :=
  match rejection s.cfg.protoVersion s.nodeAddr F with
  | some e => .next (s.report e)
  | none => dispatch F s

/-- The COLLECT step, last byte (R143): scanning resumes whatever the outcome. -/
def lastByte (b : Byte) (s : State) : Host.Outcome State Fault Refusal :=
  finishCandidate (s.rxBuf.set 15 b) ((s.setRxBuf (s.rxBuf.set 15 b)).setRxPos .scan 0)

/-- The RX step on the byte it popped (R140). -/
def rxByte (b : Byte) (s : State) : Host.Outcome State Fault Refusal :=
  match s.rxState with
  | .scan => .next (scanByte b s)
  | .collect => if s.rxCount = 15 then lastByte b s else .next (collectByte b s)

/-- The RX agent (R140): a step exactly when `phase = RUN` and a byte is unread; otherwise the block waits (R66). -/
def rxAgent (s : State) : Host.Outcome State Fault Refusal :=
  match s.phase, s.rxIn with
  | .run, b :: rest => rxByte b (s.setRxIn rest)
  | _, _ => .next s

/-! ## The stream function (R146) -/

/-- The first 16 bytes of a stream as a candidate, and the rest; `none` when fewer are left. -/
def takeFrame (bs : List Byte) : Option (Frame × List Byte) :=
  match frameOfBytes (bs.take 16) with
  | some F => some (F, bs.drop 16)
  | none => none

/-- `receive_next_frame(s)` (R146), with the reports it raised on the way. `fuel` bounds the candidates tried: one more than
the bytes there are is always enough. `none`: it waits for bytes. -/
def receiveNextFrame (ver : Byte) (nodeAddr : Half) : Nat → List Byte → List Report → Option (Frame × List Byte × List Report)
  | 0, _, _ => none
  | fuel + 1, bs, raised =>
    match takeFrame (bs.dropWhile (· ≠ magic0)) with
    | none => none
    | some (B, rest) =>
      match rejection ver nodeAddr B with
      | none => some (B, rest, raised)
      | some e => receiveNextFrame ver nodeAddr fuel rest (raised ++ [e])

end Sys2Proof.Machine
end

