-- ==== Sys2Proof/Machine/Transmit.lean ====
section
/-! DEFINITION. The TIMER agent (42_transmit.md R166) and the HOST agent (10_state.md R35, 43_actuator.md R184, R185). -/

namespace Sys2Proof.Machine

/-- When a tick is taken (R166): `sched_state = ARMED` and `phase` is `BOOT(4)` or `RUN`. -/
def tickEnabled (s : State) : Bool :=
  s.sched == .armed && (s.phase == .boot 4 || s.phase == .run)

/-- `TICK` (R166): one announcement. A tick that is not enabled is not taken, counted or latched (R234, D25). -/
def timerAgent (s : State) : Host.Outcome State Fault Refusal :=
  if tickEnabled s then .next (announce s) else .next s

/-- One host operation in `phase = RUN` (R35). An actuator index outside the bank is refused (R184, R185, U13). -/
def hostOp (op : HostOp) (s : State) : Host.Outcome State Fault Refusal :=
  match op with
  | .enable i => if i < s.cfg.bankSize then .next (setEnable true s i) else .refused (.hostIndexOutOfRange i)
  | .disable i => if i < s.cfg.bankSize then .next (setEnable false s i) else .refused (.hostIndexOutOfRange i)
  | .announce => .next (announce s)
  | .sendTemp dest value => .next (sendTemp dest value s)
  | .sendAccel dest x y z => .next (sendAccel dest x y z s)

/-- The HOST agent: a step only when `phase = RUN` (R35); otherwise the operation is not accepted. -/
def hostAgent (op : HostOp) (s : State) : Host.Outcome State Fault Refusal :=
  if s.phase = .run then hostOp op s else .next s

end Sys2Proof.Machine
end

