-- ==== Sys2Proof/Machine/Schedule.lean ====
section
/-! DEFINITION. Which agent moves (00_scope.md R9, 20_memory.md R74), the lines of a program script as schedule entries
(30_encoding.md R111), and where an instruction stands to be fetched next. -/

namespace Sys2Proof.Machine

/-- The turn taken next: the head of the schedule; past its end BOOT while it has a step, then RX. Log entry 4. -/
def State.nextTurn (s : State) : Turn :=
  match s.turns with
  | t :: _ => t
  | [] =>
    match s.phase with
    | .boot _ => .boot
    | _ => .rx

/-- One turn while start-up has not failed. An agent that has no step enabled lets its turn pass (R66, R140, R166, R35). -/
def liveTurn (t : Turn) (s : State) : Host.Outcome State Fault Refusal :=
  match t with
  | .boot => bootAgent s
  | .rx => rxAgent s
  | .tick => timerAgent s
  | .host op => hostAgent op s
  | .deliver bytes => .next (s.setRxIn (s.rxIn ++ bytes))
  | .thermal v => .next (s.setThermal v)
  | .reset inputs => .next (nodeReset inputs s)

/-- One turn. In `FAILED` no agent has a step (R267): only a reset leads on. -/
def takeTurn (t : Turn) (s : State) : Host.Outcome State Fault Refusal :=
  match s.phase, t with
  | .failed, .reset inputs => .next (nodeReset inputs s)
  | .failed, _ => .fault .startupFailed
  | _, t => liveTurn t s

/-- One step of the machine: the next turn is taken out of the schedule and offered. -/
def stepTurn (s : State) : Host.Outcome State Fault Refusal :=
  takeTurn s.nextTurn (s.setTurns s.turns.tail)

/-! ## Program scripts (R111) -/

/-- One line of a program script (R111). -/
inductive ScriptLine where
  /-- A mnemonic line: the 16 bytes of `build(type, dest, payload)`. -/
  | frame (i : Instr)
  /-- `RAW`: literal bytes placed on `rx_in`. -/
  | raw (bytes : List Byte)
  /-- `TICK`. -/
  | tick
  /-- `ENABLE`, `DISABLE`, `ANNOUNCE`, `SEND_TEMP`, `SEND_ACCEL`. -/
  | host (op : HostOp)
  /-- `THERMAL`. -/
  | thermal (v : Thermal)
  deriving DecidableEq, Repr

/-- Bytes supplied on `rx_in`, and as many RX steps. -/
def deliverAndRead (bytes : List Byte) : List Turn := .deliver bytes :: List.replicate bytes.length .rx

/-- The turns a script line stands for, under the version byte `ver` (R111). -/
def ScriptLine.turns (ver : Byte) : ScriptLine → List Turn
  | .frame i => deliverAndRead (encode ver i).bytes
  | .raw bytes => deliverAndRead bytes
  | .tick => [.tick]
  | .host op => [.host op]
  | .thermal v => [.thermal v]

/-! ## The next instruction -/

/-- The frame with the version byte a node expects and the checksum that then belongs to it (R113: the table gives no bits
to bytes 4, 14 and 15, since their values are a parameter and a computed value). -/
def sealFrame (ver : Byte) (F : Frame) : Frame :=
  let G := F.set 4 ver
  let c := checksum (Frame.covered G)
  (G.set 14 (lo8 c)).set 15 (hi8 c)

/-- `s` with the frame one byte short of complete: fifteen bytes collected, the sixteenth unread, this node the addressed
one, in the steady state, RX to move. Log entry 7. -/
def placeFrame (F : Frame) (s : State) : State :=
  (((((s.setRxBuf F).setRxPos .collect 15).setRxIn (F[15] :: s.rxIn)).setNodeAddr F.dest).setPhase .run).setTurns
    (.rx :: s.turns)

end Sys2Proof.Machine
end

