-- ==== Sys2Proof/Machine/Step.lean ====
section
/-! DEFINITION. The step of the machine, and the placing of an instruction where the next step takes it. -/

namespace Sys2Proof.Machine

/-- One step: the turn that comes next (00_scope.md R9). -/
def step (s : State) : Host.Outcome State Fault Refusal := stepTurn s

/-- `s` with the numbered instruction as the candidate frame whose sixteenth byte the next step takes: its version byte and
checksum are those that make it valid on this node, and this node is the one it is addressed to. Log entry 7. -/
def State.withFetchWord (s : State) (nbits w : Nat) : State :=
  placeFrame (sealFrame s.cfg.protoVersion (tableFrame nbits w)) s

end Sys2Proof.Machine
end

