-- ==== Sys2Proof/Safety.lean ====
section
/-! DEFINITION. What the spec promises of every state, in the terms claims use: the range and exclusion of the levels
(10_state.md R23), the receive position (R24), the phase (R28, R29, R267), whole frames on the wire (20_memory.md R75,
42_transmit.md R164), and the levels as the last writes made (R22). -/

namespace Sys2Proof.Machine

/-- The bank has `BANK_SIZE` actuators (R21), and the configuration meets R6. -/
abbrev State.BankSized (s : State) : Prop := s.cfg.Valid ∧ s.bank.length = s.cfg.bankSize

/-- Not both channels of an actuator are driven (R23). -/
abbrev State.LevelsExclusive (s : State) : Prop := ∀ a ∈ s.bank, a.hi = 0 ∨ a.lo = 0

/-- In `SCAN`, `rx_count` is 0; in `COLLECT` it is 1 to 15 and the candidate begins with `0xC5` (R24, R222). -/
abbrev State.RxCoherent (s : State) : Prop :=
  match s.rxState with
  | .scan => s.rxCount = 0
  | .collect => s.rxCount ≠ 0 ∧ s.rxBuf[0] = magic0

/-- What holds of a node that is still in start-up or has failed in it: nothing received, nothing driven. -/
abbrev State.Untouched (s : State) : Prop :=
  s.rxState = .scan ∧ s.pwmOut = [] ∧ ∀ a ∈ s.bank, a.hi = 0 ∧ a.lo = 0

/-- The scheduler is armed exactly from the end of `BOOT(3)` on (R165, R265); before that nothing is sent; the actuators are
enabled from the end of `BOOT(1)` on; a failed start-up has reported a fatal event (R261 to R267). -/
abbrev State.PhaseCoherent (s : State) : Prop :=
  match s.phase with
  | .boot k =>
    s.Untouched ∧ (s.sched = .armed ↔ k = 4) ∧ (k ≠ 4 → s.txOut = []) ∧ s.reportOut = []
      ∧ ∀ a ∈ s.bank, a.en = decide (2 ≤ k.val)
  | .run => s.sched = .armed ∧ s.txOut ≠ []
  | .failed =>
    s.Untouched ∧ s.sched = .idle ∧ s.txOut = [] ∧ (∀ a ∈ s.bank, a.en = true)
      ∧ (s.reportOut = [.fatalChannelInit] ∨ s.reportOut = [.fatalTimerArm])

/-- A frame the block itself sends: a built frame of type `0x10`, `0x12` or `0x13`, the first only by broadcast (R161 to
R164). -/
abbrev OwnFrame (c : Config) (F : Frame) : Prop :=
  ∃ (t : Byte) (d : Half) (p : List Byte), F = build c.protoVersion t d p ∧ p.length ≤ 8
    ∧ (t = 0x10#8 ∧ d = broadcast ∨ t = 0x12#8 ∨ t = 0x13#8)

/-- `tx_out` is a concatenation of whole frames of the block's own (R75, R164). -/
abbrev State.WholeFrames (s : State) : Prop :=
  ∃ Fs : List Frame, s.txOut = Fs.flatMap Frame.bytes ∧ ∀ F ∈ Fs, OwnFrame s.cfg F

/-- The level a write history leaves in one channel, from the level 0 of reset (R38, R42). -/
def lastLevel (ws : List PwmWrite) (i : Nat) (ch : Channel) : Byte :=
  ws.foldl (fun v w => if w.index = i ∧ w.channel = ch then w.level else v) 0

/-- Every channel level is the one last written to the pulse-width collaborator (R22). -/
abbrev State.LevelsTracked (s : State) : Prop :=
  ∀ i a, s.bank[i]? = some a → ∀ ch, a.level ch = lastLevel s.pwmOut i ch

/-- The invariant of the block: all of the above. -/
structure State.Inv (s : State) : Prop where
  bankSized : s.BankSized
  levelsExclusive : s.LevelsExclusive
  rxCoherent : s.RxCoherent
  phaseCoherent : s.PhaseCoherent
  wholeFrames : s.WholeFrames
  levelsTracked : s.LevelsTracked

/-- One byte of R120's loop on naturals, as its pseudocode writes it: no truncation but where `trunc16` is written. -/
def crcStepNat (crc b : Nat) : Nat :=
  let tmp0 := (crc >>> 8) ^^^ b
  let tmp := tmp0 ^^^ (tmp0 >>> 4)
  ((crc <<< 8) ^^^ (tmp <<< 12) ^^^ (tmp <<< 5) ^^^ tmp) % 65536

/-- R120's `checksum` on naturals. -/
def checksumNat (bytes : List Nat) : Nat := bytes.foldl crcStepNat 0xFFFF

/-- A level in 0 to 255 for an integer that may lie outside: R181's clamp of one direction. -/
def clampLevel (n : Int) : Byte := BitVec.ofInt 8 (max 0 (min n 255))

/-- A safe outcome: the block goes on (60_exceptions.md R220); a claim about the steady state excludes the fault of a failed
start-up by premise (R267). -/
abbrev Goes (o : Host.Outcome State Fault Refusal) : Prop := ∃ t, o = .next t

end Sys2Proof.Machine
end

