-- ==== Sys2Proof/Certificates/Slice0/Obligations.lean ====
section
/-! DEFINITION. The statements for the provers. Each docstring names the rules of spec/ it formalises. -/

open Sys2Proof Sys2Proof.Machine

/-! ## FrameCodec -/

/-- 40_framecodec.md R126, 30_encoding.md R111: what `encode` writes validates, is read back as the command with every operand,
and carries the command's destination. -/
def Obligations.EncodedCommandsDecodeToThemselves : Prop :=
  ∀ (ver : Byte) (i : Instr), i.WellFormed →
    validate ver (encode ver i) = .ok (encode ver i) ∧ decode (encode ver i) = .ok i
      ∧ Frame.dest (encode ver i) = i.dest

/-- 30_encoding.md R107, R113: what the decoder reads is well formed, and encoding it again gives every byte it was read
from. -/
def Obligations.DecodedCommandsReencodeTheirBytes : Prop :=
  ∀ (ver : Byte) (F : Frame) (i : Instr), decode F = .ok i →
    i.WellFormed ∧ ∀ k ∈ i.operandBytes, (encode ver i)[k] = F[k]

/-- 30_encoding.md R106, 93_implementation_defined.md U5: a frame that agrees on the bytes a command is read from is read as
the same command, whatever its version, unused payload and checksum bytes hold. -/
def Obligations.UnusedBytesAreNotRead : Prop :=
  ∀ (F G : Frame) (i : Instr), decode F = .ok i → (∀ k ∈ i.operandBytes, G[k] = F[k]) → decode G = .ok i

/-- 30_encoding.md R113: the decoder reads a frame as the first row of spec/opcode_table.json that it matches, and rejects a
frame that matches none. -/
def Obligations.DecoderFollowsTheOpcodeTable : Prop :=
  ∀ F : Frame, tableMnemonic F = match decode F with
    | .ok i => some i.mnemonic
    | .error _ => none

/-- 30_encoding.md R108: with the magic right, exactly the payload types outside `0x10` to `0x15` are unknown, and are
rejected by their value. -/
def Obligations.TypesOutsideTheSixAreUnknown : Prop :=
  ∀ F : Frame, F[0] = 0xC5#8 → F[1] = 0x34#8 →
    (decode F = .error (.unknownType F[5]) ↔ F[5].toNat < 0x10 ∨ 0x15 < F[5].toNat)

/-- 30_encoding.md R103: the sentinel is `P[0] = 0xFF`, `P[1] = P[2] = 0`, whatever `P[3..7]` hold; every other payload of
type `0x11` is an ordinary command. -/
def Obligations.HaltSentinelIsThreeBytes : Prop :=
  ∀ F : Frame, F[0] = 0xC5#8 → F[1] = 0x34#8 → F[5] = 0x11#8 →
    (F[6] = 0xFF#8 ∧ F[7] = 0 ∧ F[8] = 0 → decode F = .ok (.halt (le16 F[2] F[3]))) ∧
    (¬ (F[6] = 0xFF#8 ∧ F[7] = 0 ∧ F[8] = 0) → decode F = .ok (.solenoid (le16 F[2] F[3]) F[6] (le16 F[7] F[8])))

/-- 30_encoding.md R112: `HALT dest` stands for `SOLENOID dest, 0xFF, 0`. -/
def Obligations.HaltIsThePseudoSolenoid : Prop :=
  ∀ (ver : Byte) (d : Half), encode ver (.halt d) = encode ver (.solenoid d 0xFF#8 0)

/-- 95_test_vectors.md V20 to V26: one word of each row, written out from 30_encoding.md, decodes to its command. -/
def Obligations.WrittenOutFramesDecode : Prop :=
  decode #v[0xC5, 0x34, 0xFF, 0xFF, 0x01, 0x10, 0x10, 0x00, 0x12, 0x00, 0x00, 0x00, 0x00, 0x00, 0xF2, 0x71]
    = .ok (.devinfo 0xFFFF 0x0010 0x12 0) ∧
  decode #v[0xC5, 0x34, 0xFF, 0xFF, 0x01, 0x11, 0xFF, 0x00, 0x00, 0x00, 0x00, 0x00, 0x00, 0x00, 0xEE, 0xA2]
    = .ok (.halt 0xFFFF) ∧
  decode #v[0xC5, 0x34, 0x10, 0x00, 0x01, 0x11, 0x00, 0xF4, 0x01, 0x00, 0x00, 0x00, 0x00, 0x00, 0x5F, 0x9D]
    = .ok (.solenoid 0x0010 0 500) ∧
  decode #v[0xC5, 0x34, 0xFF, 0xFF, 0x01, 0x12, 0x23, 0x01, 0x00, 0x00, 0x00, 0x00, 0x00, 0x00, 0x99, 0x10]
    = .ok (.temp 0xFFFF 291) ∧
  decode #v[0xC5, 0x34, 0xFF, 0xFF, 0x01, 0x13, 0x01, 0x00, 0xFE, 0xFF, 0xE8, 0x03, 0x00, 0x00, 0xDC, 0xA4]
    = .ok (.accel 0xFFFF 1 (-2) 1000) ∧
  decode #v[0xC5, 0x34, 0x10, 0x00, 0x01, 0x14, 0x00, 0x00, 0x00, 0x00, 0x00, 0x00, 0x00, 0x00, 0x6D, 0x41]
    = .ok (.angvel 0x0010 0 0 0) ∧
  decode #v[0xC5, 0x34, 0x10, 0x00, 0x01, 0x15, 0xFF, 0xFF, 0xFF, 0xFF, 0xFF, 0xFF, 0x00, 0x00, 0xA0, 0x11]
    = .ok (.direction 0x0010 (-1) (-1) (-1))

/-- 40_framecodec.md R120: the checksum is the rule's pseudocode on naturals, with `trunc16` where it is written, for every
list of bytes; and the rule's corner cases and example. -/
def Obligations.ChecksumIsTheRulesAlgorithm : Prop :=
  (∀ bytes : List Byte, (checksum bytes).toNat = checksumNat (bytes.map (·.toNat))) ∧
  checksum [] = 0xFFFF ∧ checksum [0x00] = 0xE1F0 ∧ checksum [0xFF] = 0xFF00 ∧
  checksum (List.replicate 10 0x00) = 0xE139 ∧ checksum (List.replicate 10 0xFF) = 0xA6E1 ∧
  checksum [0x01, 0x11, 0xFF, 0x00, 0x00, 0x00, 0x00, 0x00, 0x00, 0x00] = 0xA2EE

/-- 40_framecodec.md R123: every byte of a built frame; and the rule's example. -/
def Obligations.BuildWritesEveryByte : Prop :=
  (∀ (ver t : Byte) (d : Half) (p : List Byte), p.length ≤ 8 →
    let F := build ver t d p
    F[0] = 0xC5#8 ∧ F[1] = 0x34#8 ∧ F[2].toNat = d.toNat % 256 ∧ F[3].toNat = d.toNat / 256 % 256 ∧ F[4] = ver ∧ F[5] = t
      ∧ [F[6], F[7], F[8], F[9], F[10], F[11], F[12], F[13]] = p ++ List.replicate (8 - p.length) 0
      ∧ F[14].toNat + 256 * F[15].toNat
          = (checksum [F[4], F[5], F[6], F[7], F[8], F[9], F[10], F[11], F[12], F[13]]).toNat) ∧
  build 0x01 0x11 0xFFFF [0xFF, 0x00, 0x00]
    = #v[0xC5, 0x34, 0xFF, 0xFF, 0x01, 0x11, 0xFF, 0x00, 0x00, 0x00, 0x00, 0x00, 0x00, 0x00, 0xEE, 0xA2]

/-- 40_framecodec.md R126: for any payload type, destination and payload, a built frame validates, and its destination and
type fields read back. -/
def Obligations.BuiltFramesValidate : Prop :=
  ∀ (ver t : Byte) (d : Half) (p : List Byte), p.length ≤ 8 →
    validate ver (build ver t d p) = .ok (build ver t d p) ∧ Frame.dest (build ver t d p) = d
      ∧ Frame.ptype (build ver t d p) = t

/-- 40_framecodec.md R124: magic, checksum, version, in that order; the first failure is returned and no other; and the rule's
example. -/
def Obligations.ValidateReturnsTheFirstFailure : Prop :=
  (∀ (ver : Byte) (B : Frame),
    let magicGood := B[0] = 0xC5#8 ∧ B[1] = 0x34#8
    let sumGood := le16 B[14] B[15]
      = checksum [B[4], B[5], B[6], B[7], B[8], B[9], B[10], B[11], B[12], B[13]]
    (validate ver B = .error .badMagic ↔ ¬ magicGood) ∧
    (validate ver B = .error .badChecksum ↔ magicGood ∧ ¬ sumGood) ∧
    (validate ver B = .error .badVersion ↔ magicGood ∧ sumGood ∧ B[4] ≠ ver) ∧
    (validate ver B = .ok B ↔ magicGood ∧ sumGood ∧ B[4] = ver)) ∧
  validate 0x01 #v[0xC5, 0x34, 0x10, 0x00, 0x02, 0x11, 0x00, 0xF4, 0x01, 0x00, 0x00, 0x00, 0x00, 0x00, 0x90, 0x2C]
    = .error .badVersion

/-- 40_framecodec.md R127, by R120 for any damage to one byte and not only one flipped bit: any change in byte 0 or 1 fails as `BadMagic`;
the two destination bytes are not protected; and any change in any one byte of 4 to 15 fails as `BadChecksum`, the version byte
included. -/
def Obligations.DamageToOneByteIsDetected : Prop :=
  ∀ (ver : Byte) (F : Frame), validate ver F = .ok F →
    (∀ (k : Fin 16) (b : Byte), b ≠ F[k] →
      (k.val < 2 → validate ver (F.set k b) = .error .badMagic) ∧
      (4 ≤ k.val → validate ver (F.set k b) = .error .badChecksum)) ∧
    (∀ a b : Byte, validate ver ((F.set 2 a).set 3 b) = .ok ((F.set 2 a).set 3 b))

/-! ## The receive path

Where a statement takes a schedule `turns = []`, it is the RX agent that moves in `RUN` and BOOT before it (log entry 4). -/

/-- 41_receive.md R141: a SCAN step. A byte other than `0xC5` is dropped without a report (92_eei_decisions.md D23). -/
def Obligations.ScanStepLooksForTheMagic : Prop :=
  ∀ (s : State) (b : Byte) (rest : List Byte),
    s.phase = .run → s.nextTurn = .rx → s.rxIn = b :: rest → s.rxState = .scan →
    (b = 0xC5#8 → step s = .next { s with
      turns := s.turns.tail, rxIn := rest, rxBuf := s.rxBuf.set 0 b, rxCount := 1, rxState := .collect }) ∧
    (b ≠ 0xC5#8 → step s = .next { s with turns := s.turns.tail, rxIn := rest })

/-- 41_receive.md R142: a COLLECT step that is not the last stores the byte whatever its value; with no byte to read the block
waits in `COLLECT` (its turn passes: log entry 4). -/
def Obligations.CollectStepStoresAnyByte : Prop :=
  ∀ (s : State) (n : Fin 16),
    s.phase = .run → s.nextTurn = .rx → s.rxState = .collect → s.rxCount = n → n.val ≤ 14 →
    (∀ b rest, s.rxIn = b :: rest → step s = .next { s with
      turns := s.turns.tail, rxIn := rest, rxBuf := s.rxBuf.set n.val b, rxCount := n + 1 }) ∧
    (s.rxIn = [] → step s = .next { s with turns := s.turns.tail })

/-- 41_receive.md R143, R144, 60_exceptions.md R222 to R225: the last byte of a candidate. Scanning resumes whatever the
outcome; of several failures the first in the order magic, checksum, version, address is reported; an accepted frame is
dispatched in the same step. -/
def Obligations.LastByteSettlesTheCandidate : Prop :=
  ∀ (s : State) (b : Byte) (rest : List Byte),
    s.phase = .run → s.nextTurn = .rx → s.rxIn = b :: rest → s.rxState = .collect → s.rxCount = 15 →
    let F := s.rxBuf.set 15 b
    let t := { s with turns := s.turns.tail, rxIn := rest, rxBuf := F, rxCount := 0, rxState := .scan }
    let sum := checksum [F[4], F[5], F[6], F[7], F[8], F[9], F[10], F[11], F[12], F[13]]
    let magicGood := F[0] = 0xC5#8 ∧ F[1] = 0x34#8
    let sumGood := le16 F[14] F[15] = sum
    let dest := le16 F[2] F[3]
    let accepted := dest = 0xFFFF#16 ∨ dest = s.nodeAddr
    (¬ magicGood → step s = .next { t with reportOut := s.reportOut ++ [.badMagic F[1]] }) ∧
    (magicGood → ¬ sumGood →
      step s = .next { t with reportOut := s.reportOut ++ [.badChecksum (le16 F[14] F[15]) sum] }) ∧
    (magicGood → sumGood → F[4] ≠ s.cfg.protoVersion →
      step s = .next { t with reportOut := s.reportOut ++ [.badVersion F[4]] }) ∧
    (magicGood → sumGood → F[4] = s.cfg.protoVersion → ¬ accepted →
      step s = .next { t with reportOut := s.reportOut ++ [.misaddressed dest] }) ∧
    (magicGood → sumGood → F[4] = s.cfg.protoVersion → accepted → step s = dispatch F t)

/-- 44_dispatch.md R200, 41_receive.md R145: where the completed candidate is valid, passes the filter and decodes to `i`, the
step is `exec i` on the state with the byte taken and scanning resumed; and `i` is well formed. -/
def Obligations.StepRunsTheDecodedCommand : Prop :=
  ∀ (s : State) (b : Byte) (rest : List Byte) (i : Instr),
    s.phase = .run → s.nextTurn = .rx → s.rxIn = b :: rest → s.rxState = .collect → s.rxCount = 15 →
    let F := s.rxBuf.set 15 b
    validate s.cfg.protoVersion F = .ok F → (Frame.dest F = 0xFFFF#16 ∨ Frame.dest F = s.nodeAddr) → decode F = .ok i →
    i.WellFormed ∧ step s = exec i { s with
      turns := s.turns.tail, rxIn := rest, rxBuf := F, rxCount := 0, rxState := .scan }

/-- 44_dispatch.md R209: an accepted frame of an unknown type is reported by its type, and nothing else changes. -/
def Obligations.UnknownTypeIsReported : Prop :=
  ∀ (F : Frame) (s : State), F[0] = 0xC5#8 → F[1] = 0x34#8 → (F[5].toNat < 0x10 ∨ 0x15 < F[5].toNat) →
    dispatch F s = .next { s with reportOut := s.reportOut ++ [.unknownType F[5]] }

/-- 41_receive.md R140, R147, 20_memory.md R65, R66: an RX turn in `RUN` takes exactly one unread byte, and waits when there is
none (its turn passes: log entry 4). -/
def Obligations.EachRxStepTakesOneByte : Prop :=
  ∀ s : State, s.phase = .run → s.nextTurn = .rx →
    (s.rxIn = [] → step s = .next { s with turns := s.turns.tail }) ∧
    (∀ b rest, s.rxIn = b :: rest → ∃ t, step s = .next t ∧ t.rxIn = rest ∧ t.turns = s.turns.tail)

/-- 10_state.md R24, 41_receive.md R147: a candidate in progress costs exactly the bytes it still lacks, whether it validates or
not, and scanning then resumes at the byte after it. -/
def Obligations.CandidateEndsAfterItsSixteenBytes : Prop :=
  ∀ (s : State) (bytes rest : List Byte),
    s.phase = .run → s.turns = [] → s.rxState = .collect → s.rxIn = bytes ++ rest →
    s.rxCount.val + bytes.length = 16 →
    ∃ t, Host.Core.run core bytes.length s = .next t ∧ t.rxState = .scan ∧ t.rxCount = 0 ∧ t.rxIn = rest ∧ t.phase = .run

/-- 41_receive.md R148 with its condition: garbage without `0xC5` around any two frames that validate and pass the filter is
dropped byte by byte, and the two frames are dispatched in order, whatever their types and unused payload bytes. -/
def Obligations.TwoFramesInGarbageTakeEffectInOrder : Prop :=
  ∀ (s : State) (F G : Frame) (g h rest : List Byte),
    s.phase = .run → s.turns = [] → s.rxState = .scan → s.rxCount = 0 → 0xC5#8 ∉ g → 0xC5#8 ∉ h →
    validate s.cfg.protoVersion F = .ok F → validate s.cfg.protoVersion G = .ok G →
    (Frame.dest F = 0xFFFF#16 ∨ Frame.dest F = s.nodeAddr) → (Frame.dest G = 0xFFFF#16 ∨ Frame.dest G = s.nodeAddr) →
    s.rxIn = g ++ F.toList ++ h ++ G.toList ++ rest →
    ∃ t, dispatch F { s with rxIn := h ++ G.toList ++ rest, rxBuf := F } = .next t ∧
      Host.Core.run core (g.length + 16 + h.length + 16) s = dispatch G { t with rxIn := rest, rxBuf := G }

/-- 41_receive.md R146: the RX agent's steps over the unread bytes agree with `receive_next_frame` as a function of the stream:
the same bytes consumed, the same reports in the same order, the same frame dispatched. Where the function waits,
WaitingForAFrameMovesNothing says what the steps do. -/
def Obligations.RxStepsRefineTheStreamFunction : Prop :=
  ∀ (s : State) (fuel : Nat) (B : Frame) (rest : List Byte) (raised : List Report),
    s.phase = .run → s.turns = [] → s.rxState = .scan → s.rxCount = 0 →
    receiveNextFrame s.cfg.protoVersion s.nodeAddr fuel s.rxIn [] = some (B, rest, raised) →
    Host.Core.run core (s.rxIn.length - rest.length) s
      = dispatch B { s with rxIn := rest, rxBuf := B, reportOut := s.reportOut ++ raised }

/-- 41_receive.md R146, R149: where the stream function waits, the RX agent takes every byte and dispatches nothing: only the
receive position, `RXBUF` and the reports differ, and every report is one of a rejected candidate. -/
def Obligations.WaitingForAFrameMovesNothing : Prop :=
  ∀ s : State, s.phase = .run → s.turns = [] → s.rxState = .scan → s.rxCount = 0 →
    receiveNextFrame s.cfg.protoVersion s.nodeAddr (s.rxIn.length + 1) s.rxIn [] = none →
    ∃ st n F raised, Host.Core.run core s.rxIn.length s = .next { s with
      rxIn := [], rxState := st, rxCount := n, rxBuf := F, reportOut := s.reportOut ++ raised } ∧
      ∀ e ∈ raised, e.code.toNat < 5

/-- 41_receive.md R150, 43_actuator.md R186: levels and write events change only in the RX step that completes a valid, accepted
frame of type `0x11`; a node reset apart. -/
def Obligations.OnlyAcceptedSolenoidFramesMoveTheBank : Prop :=
  ∀ s t : State, step s = .next t → (∀ inputs, s.nextTurn ≠ .reset inputs) →
    (t.pwmOut ≠ s.pwmOut ∨ t.bank.map (fun a => (a.hi, a.lo)) ≠ s.bank.map (fun a => (a.hi, a.lo))) →
    s.nextTurn = .rx ∧ s.phase = .run ∧ s.rxState = .collect ∧ s.rxCount = 15 ∧
      ∃ b rest, s.rxIn = b :: rest ∧
        validate s.cfg.protoVersion (s.rxBuf.set 15 b) = .ok (s.rxBuf.set 15 b) ∧
        (Frame.dest (s.rxBuf.set 15 b) = 0xFFFF#16 ∨ Frame.dest (s.rxBuf.set 15 b) = s.nodeAddr) ∧
        Frame.ptype (s.rxBuf.set 15 b) = 0x11#8

/-- 60_exceptions.md R230, R233: a step raises at most one report, and takes none back; a node reset apart. -/
def Obligations.AtMostOneReportPerStep : Prop :=
  ∀ s t : State, step s = .next t → (∀ inputs, s.nextTurn ≠ .reset inputs) →
    t.reportOut = s.reportOut ∨ ∃ e, t.reportOut = s.reportOut ++ [e]

/-! ## The commands -/

/-- 44_dispatch.md R201: `DEVINFO` reports the peer, with the operands of the frame's payload (R99), and changes nothing else; the
unused payload bytes are ignored. -/
def Obligations.DevinfoReportsThePeer : Prop :=
  (∀ (s : State) (d address : Half) (version status : Byte),
    exec (.devinfo d address version status) s
      = .next { s with reportOut := s.reportOut ++ [.peerInfo address version status] }) ∧
  (∀ (s : State) (F : Frame), F[0] = 0xC5#8 → F[1] = 0x34#8 → F[5] = 0x10#8 →
    dispatch F s = .next { s with reportOut := s.reportOut ++ [.peerInfo (le16 F[6] F[7]) F[8] F[9]] })

/-- 44_dispatch.md R205 to R208: the four telemetry types are reported as unknown, whatever their payload, and change nothing
else. -/
def Obligations.TelemetryIsRejected : Prop :=
  (∀ (s : State) (d x y z : Half),
    exec (.temp d x) s = .next { s with reportOut := s.reportOut ++ [.unknownType 0x12#8] } ∧
    exec (.accel d x y z) s = .next { s with reportOut := s.reportOut ++ [.unknownType 0x13#8] } ∧
    exec (.angvel d x y z) s = .next { s with reportOut := s.reportOut ++ [.unknownType 0x14#8] } ∧
    exec (.direction d x y z) s = .next { s with reportOut := s.reportOut ++ [.unknownType 0x15#8] }) ∧
  (∀ (s : State) (F : Frame), F[0] = 0xC5#8 → F[1] = 0x34#8 →
    F[5] = 0x12#8 ∨ F[5] = 0x13#8 ∨ F[5] = 0x14#8 ∨ F[5] = 0x15#8 →
    dispatch F s = .next { s with reportOut := s.reportOut ++ [.unknownType F[5]] })

/-- 44_dispatch.md R204: an id at or above `BANK_SIZE` that is not the halt sentinel is reported, and no actuator changes. -/
def Obligations.SolenoidOutOfRangeIsRejected : Prop :=
  (∀ (s : State) (d value : Half) (id : Byte), s.cfg.bankSize ≤ id.toNat → ¬ (id = 0xFF#8 ∧ value = 0) →
    exec (.solenoid d id value) s = .next { s with reportOut := s.reportOut ++ [.actIdRange id] }) ∧
  (∀ (s : State) (F : Frame), F[0] = 0xC5#8 → F[1] = 0x34#8 → F[5] = 0x11#8 → s.cfg.bankSize ≤ F[6].toNat →
    ¬ (F[6] = 0xFF#8 ∧ F[7] = 0 ∧ F[8] = 0) →
    dispatch F s = .next { s with reportOut := s.reportOut ++ [.actIdRange F[6]] })

/-- 44_dispatch.md R203, 43_actuator.md R180 to R182: an enabled actuator is driven to the clamped pair of levels, whatever its
levels were; each channel that changes makes one write event, high before low (92_eei_decisions.md D29); a disabled one
ignores the command; nothing else changes. -/
def Obligations.SolenoidDrivesAnEnabledActuator : Prop :=
  (∀ (s : State) (d value : Half) (id : Byte) (a : Actuator), id.toNat < s.cfg.bankSize → s.bank[id.toNat]? = some a →
    let h := clampLevel (s16 value)
    let l := clampLevel (-(s16 value))
    exec (.solenoid d id value) s = .next (if a.en then { s with
      bank := s.bank.set id.toNat { en := true, hi := h, lo := l }
      pwmOut := s.pwmOut ++ (if a.hi = h then [] else [⟨id.toNat, .hi, h⟩]) ++ (if a.lo = l then [] else [⟨id.toNat, .lo, l⟩]) }
      else s)) ∧
  (∀ (s : State) (F : Frame), F[0] = 0xC5#8 → F[1] = 0x34#8 → F[5] = 0x11#8 → F[6].toNat < s.cfg.bankSize →
    ¬ (F[6] = 0xFF#8 ∧ F[7] = 0 ∧ F[8] = 0) →
    dispatch F s = exec (.solenoid (le16 F[2] F[3]) F[6] (le16 F[7] F[8])) s)

/-- 43_actuator.md R181: the levels of `motion` on the integers, saturating at 255, never both non-zero; and the rule's
examples. -/
def Obligations.MotionClampsOntoOneChannel : Prop :=
  (∀ value : Half,
    ((motion value).1.toNat : Int) = (if 0 < s16 value then min (s16 value) 255 else 0) ∧
    ((motion value).2.toNat : Int) = (if s16 value < 0 then min (-(s16 value)) 255 else 0)) ∧
  motion (u16 500) = (255, 0) ∧ motion (u16 (-500)) = (0, 255) ∧ motion (u16 0) = (0, 0) ∧ motion (u16 1) = (1, 0) ∧
  motion (u16 255) = (255, 0) ∧ motion (u16 256) = (255, 0) ∧ motion (u16 32767) = (255, 0) ∧ motion (u16 (-1)) = (0, 1) ∧
  motion (u16 (-255)) = (0, 255) ∧ motion (u16 (-256)) = (0, 255) ∧ motion (u16 (-32768)) = (0, 255)

/-- 44_dispatch.md R202, 43_actuator.md R183: `HALT` puts every enabled actuator at `(0, 0)` and leaves a disabled one as it is
(90_conflicts.md C4); each channel that changes makes one write event, in ascending order, high before low
(92_eei_decisions.md D29); nothing else changes. A frame with the sentinel in its first three payload bytes does it. -/
def Obligations.HaltZeroesEveryEnabledActuator : Prop :=
  (∀ (s : State) (d : Half), s.bank.length = s.cfg.bankSize →
    exec (.halt d) s = .next { s with
      bank := s.bank.map fun a => if a.en then { a with hi := 0, lo := 0 } else a
      pwmOut := s.pwmOut ++ s.bank.zipIdx.flatMap fun p =>
        if p.1.en then (if p.1.hi = 0 then [] else [⟨p.2, .hi, 0⟩]) ++ (if p.1.lo = 0 then [] else [⟨p.2, .lo, 0⟩])
        else [] }) ∧
  (∀ (s : State) (F : Frame), F[0] = 0xC5#8 → F[1] = 0x34#8 → F[5] = 0x11#8 → F[6] = 0xFF#8 → F[7] = 0 → F[8] = 0 →
    dispatch F s = exec (.halt (le16 F[2] F[3])) s)

/-- 43_actuator.md R187: a second command with the same motion to the same actuator changes nothing and makes no write
event. -/
def Obligations.RepeatedMotionWritesNothing : Prop :=
  ∀ (s t : State) (d e v w : Half) (id : Byte), id.toNat < s.cfg.bankSize → motion v = motion w →
    exec (.solenoid d id v) s = .next t → exec (.solenoid e id w) t = .next t

/-- 70_reset_and_hazards.md R278: a repeated halt changes nothing and makes no write event. -/
def Obligations.RepeatedHaltWritesNothing : Prop :=
  ∀ (s t : State) (d e : Half), exec (.halt d) s = .next t → exec (.halt e) t = .next t

/-- 44_dispatch.md R200: every command goes on, and changes at most the levels, the write events and the reports: not the
receive position, a buffer, `NODE_ADDR`, `sched_state`, `phase`, `tx_out`, an enable bit, or an input. -/
def Obligations.CommandsKeepTheRestOfTheState : Prop :=
  ∀ (i : Instr) (s : State), ∃ bank pwm reports,
    exec i s = .next { s with bank := bank, pwmOut := s.pwmOut ++ pwm, reportOut := s.reportOut ++ reports } ∧
      bank.map (·.en) = s.bank.map (·.en)

/-! ## The transmit path, the timer and the host port -/

/-- 42_transmit.md R166, R161, R160: a tick taken in `ARMED` during `BOOT(4)` or `RUN` sends one broadcast announcement of the
node's address, packed firmware version and thermal status, and does nothing else; a tick at another time of a node that has
not failed is not taken (its turn passes: log entry 4), and a failed node takes none (a fault: log entry 8). -/
def Obligations.TickSendsOneAnnouncement : Prop :=
  ∀ s : State, s.nextTurn = .tick →
    let version : Byte := BitVec.ofNat 8 (s.cfg.fwMajor.toNat * 16 + s.cfg.fwMinor.toNat)
    let status : Byte := match s.thermal with
      | .none => 0
      | .temperatureHigh => 1
      | .temperatureCritical => 2
    let F := build s.cfg.protoVersion 0x10#8 0xFFFF#16 [lo8 s.nodeAddr, hi8 s.nodeAddr, version, status]
    (s.sched = .armed → (s.phase = .boot 4 ∨ s.phase = .run) →
      step s = .next { s with turns := s.turns.tail, txBuf := F, txOut := s.txOut ++ F.toList }) ∧
    (s.phase ≠ .failed → ¬ (s.sched = .armed ∧ (s.phase = .boot 4 ∨ s.phase = .run)) →
      step s = .next { s with turns := s.turns.tail }) ∧
    (s.phase = .failed → step s = .fault .startupFailed)

/-- 42_transmit.md R161 to R163, R160: `ANNOUNCE`, `SEND_TEMP` and `SEND_ACCEL` in `RUN` send one frame with the operands
little-endian, and do nothing else; in start-up they are not enabled (the turn passes: log entry 4). -/
def Obligations.HostSendsOneFrame : Prop :=
  ∀ (s : State) (dest v x y z : Half),
    (s.phase = .run →
      (s.nextTurn = .host (.sendTemp dest v) →
        let F := build s.cfg.protoVersion 0x12#8 dest [lo8 v, hi8 v]
        step s = .next { s with turns := s.turns.tail, txBuf := F, txOut := s.txOut ++ F.toList }) ∧
      (s.nextTurn = .host (.sendAccel dest x y z) →
        let F := build s.cfg.protoVersion 0x13#8 dest [lo8 x, hi8 x, lo8 y, hi8 y, lo8 z, hi8 z]
        step s = .next { s with turns := s.turns.tail, txBuf := F, txOut := s.txOut ++ F.toList }) ∧
      (s.nextTurn = .host .announce →
        let version : Byte := BitVec.ofNat 8 (s.cfg.fwMajor.toNat * 16 + s.cfg.fwMinor.toNat)
        let F := build s.cfg.protoVersion 0x10#8 0xFFFF#16 [lo8 s.nodeAddr, hi8 s.nodeAddr, version, s.thermal.code]
        step s = .next { s with turns := s.turns.tail, txBuf := F, txOut := s.txOut ++ F.toList })) ∧
    (∀ k, s.phase = .boot k →
      (s.nextTurn = .host (.sendTemp dest v) ∨ s.nextTurn = .host (.sendAccel dest x y z) ∨ s.nextTurn = .host .announce) →
      step s = .next { s with turns := s.turns.tail })

/-- 43_actuator.md R184, R185: in `RUN`, `ENABLE(i)` and `DISABLE(i)` write the enable bit of actuator `i` and nothing else, and an
index outside the bank is refused. -/
def Obligations.EnableAndDisableWriteOneBit : Prop :=
  ∀ (s : State) (i : Nat) (e : Bool), s.nextTurn = .host (if e then .enable i else .disable i) → s.phase = .run →
    (∀ a, i < s.cfg.bankSize → s.bank[i]? = some a →
      step s = .next { s with turns := s.turns.tail, bank := s.bank.set i { a with en := e } }) ∧
    (s.cfg.bankSize ≤ i → step s = .refused (.hostIndexOutOfRange i))

/-- 10_state.md R35, 70_reset_and_hazards.md R261: while the node starts up, the host port accepts no operation and RX reads no
byte; the turn passes (log entry 4). -/
def Obligations.NothingIsAcceptedDuringStartUp : Prop :=
  ∀ (s : State) (k : Fin 5), s.phase = .boot k → (s.nextTurn = .rx ∨ ∃ op, s.nextTurn = .host op) →
    step s = .next { s with turns := s.turns.tail }

/-- 43_actuator.md R185, 70_reset_and_hazards.md R277: no command, a halt included, touches an actuator that is disabled; and
`DISABLE(i)` followed by `ENABLE(i)` restores exactly the earlier state, non-zero levels included. -/
def Obligations.DisabledActuatorKeepsItsLevels : Prop :=
  (∀ (s : State) (i : Nat) (a : Actuator) (c : Instr) (t : State), s.bank[i]? = some a → a.en = false →
    exec c s = .next t → t.bank[i]? = some a) ∧
  (∀ (s : State) (i : Nat) (a : Actuator) (ts : List Turn), s.phase = .run → i < s.cfg.bankSize → s.bank[i]? = some a →
    a.en = true → s.turns = .host (.disable i) :: .host (.enable i) :: ts →
    Host.Core.run core 2 s = .next { s with turns := ts })

/-- 20_memory.md R74, 60_exceptions.md R235: in `RUN` a tick and an RX step commute. -/
def Obligations.TickAndRxStepCommute : Prop :=
  ∀ (s : State) (ts : List Turn), s.phase = .run →
    Host.Core.run core 2 { s with turns := .rx :: .tick :: ts } = Host.Core.run core 2 { s with turns := .tick :: .rx :: ts }

/-- 20_memory.md R74, R76, 60_exceptions.md R237: what the step of one agent leaves alone. RX writes no enable bit, `TXBUF`,
`tx_out` or control register; TIMER writes only `TXBUF` and `tx_out`; HOST writes no level, report or receive state; BOOT
writes no level, no receive state and nothing of the environment's, and in `RUN` nothing at all (00_scope.md R9; its turn
passes: log entry 4). -/
def Obligations.AgentsWriteTheirOwnState : Prop :=
  ∀ s t : State, step s = .next t →
    (s.nextTurn = .rx → t.bank.map (·.en) = s.bank.map (·.en) ∧ t.txBuf = s.txBuf ∧ t.txOut = s.txOut
      ∧ t.nodeAddr = s.nodeAddr ∧ t.sched = s.sched ∧ t.phase = s.phase) ∧
    (s.nextTurn = .tick → ∃ F out, t = { s with turns := s.turns.tail, txBuf := F, txOut := s.txOut ++ out }) ∧
    (∀ op, s.nextTurn = .host op → ∃ bank F out,
      t = { s with turns := s.turns.tail, bank := bank, txBuf := F, txOut := s.txOut ++ out }
        ∧ bank.map (fun a => (a.hi, a.lo)) = s.bank.map (fun a => (a.hi, a.lo))) ∧
    (s.nextTurn = .boot → (s.phase = .run → t = { s with turns := s.turns.tail }) ∧
      ∃ addr bank sched phase F out reports,
        t = { s with
          turns := s.turns.tail, nodeAddr := addr, bank := bank, sched := sched, phase := phase, txBuf := F
          txOut := s.txOut ++ out, reportOut := s.reportOut ++ reports }
        ∧ bank.map (fun a => (a.hi, a.lo)) = s.bank.map (fun a => (a.hi, a.lo)))

/-! ## Reset, boot and failure -/

/-- 10_state.md R42, 70_reset_and_hazards.md R260 (the spec's own decision D15): the values reset leaves, for every
configuration; and a reset of a running or failed node (log entry 6) leaves the same. What `RXBUF`, `TXBUF` and `NODE_ADDR` hold is not
stated (log entry 3). -/
def Obligations.ResetLeavesTheSpecifiedValues : Prop :=
  (∀ (c : Config) (b : BootInputs), let s := State.resetWith c b
    s.bank = List.replicate c.bankSize ⟨false, 0, 0⟩ ∧ s.rxState = .scan ∧ s.rxCount = 0 ∧ s.sched = .idle ∧ s.phase = .boot 0
      ∧ s.txOut = [] ∧ s.reportOut = [] ∧ s.pwmOut = []) ∧
  (∀ (s : State) (b : BootInputs), s.nextTurn = .reset b → ∃ t, step s = .next t ∧
    t.bank = List.replicate s.cfg.bankSize ⟨false, 0, 0⟩ ∧ t.rxState = .scan ∧ t.rxCount = 0 ∧ t.sched = .idle ∧ t.phase = .boot 0
      ∧ t.txOut = [] ∧ t.reportOut = [] ∧ t.pwmOut = [] ∧ t.cfg = s.cfg ∧ t.bootIn = b)

/-- 70_reset_and_hazards.md R262 to R267: the five boot steps, from any state: the address is loaded, every actuator enabled
with its levels kept, the link layer opened and the timer armed, the last two or a fatal report with `FAILED`; and the
announcement sent after whatever was sent before (a tick's, R284), with whatever waits on `rx_in` left unread (R261). -/
def Obligations.BootStepsFollowTheSequence : Prop :=
  ∀ s : State, s.nextTurn = .boot → let s' := { s with turns := s.turns.tail }
    (s.phase = .boot 0 → (∀ a, s.bootIn.storedAddr = some a →
        step s = .next { s' with nodeAddr := a, phase := .boot 1 }) ∧
      (s.bootIn.storedAddr = none → step s = .next { s' with nodeAddr := s.cfg.defaultAddr, phase := .boot 1 })) ∧
    (s.phase = .boot 1 → s.bank.length = s.cfg.bankSize →
      step s = .next { s' with bank := s.bank.map fun a => { a with en := true }, phase := .boot 2 }) ∧
    (s.phase = .boot 2 → (s.bootIn.channelInitOk = true → step s = .next { s' with phase := .boot 3 }) ∧
      (s.bootIn.channelInitOk = false →
        step s = .next { s' with phase := .failed, reportOut := s.reportOut ++ [.fatalChannelInit] })) ∧
    (s.phase = .boot 3 → (s.bootIn.timerArmOk = true → step s = .next { s' with sched := .armed, phase := .boot 4 }) ∧
      (s.bootIn.timerArmOk = false →
        step s = .next { s' with phase := .failed, reportOut := s.reportOut ++ [.fatalTimerArm] })) ∧
    (s.phase = .boot 4 →
      let version : Byte := BitVec.ofNat 8 (s.cfg.fwMajor.toNat * 16 + s.cfg.fwMinor.toNat)
      let F := build s.cfg.protoVersion 0x10#8 0xFFFF#16 [lo8 s.nodeAddr, hi8 s.nodeAddr, version, s.thermal.code]
      step s = .next { s' with txBuf := F, txOut := s.txOut ++ F.toList, phase := .run })

/-- 00_scope.md R9, 70_reset_and_hazards.md R261: the start-up runs once: a BOOT turn in `RUN` leaves the block alone. That the
turn passes, and the machine goes on, is the model's choice (log entry 4). -/
def Obligations.BootTurnsPassInRun : Prop :=
  ∀ s : State, s.nextTurn = .boot → s.phase = .run → step s = .next { s with turns := s.turns.tail }

/-- 70_reset_and_hazards.md R261 to R266: from reset, for every configuration, stored address and thermal status, five boot steps, taken with
an empty schedule (log entry 4), enable every actuator, arm the scheduler, send exactly one announcement and reach `RUN`. -/
def Obligations.BootReachesTheSteadyState : Prop :=
  ∀ (c : Config) (b : BootInputs) (th : Thermal), b.channelInitOk = true → b.timerArmOk = true →
    let addr := b.storedAddr.getD c.defaultAddr
    let F := build c.protoVersion 0x10#8 0xFFFF#16
      [lo8 addr, hi8 addr, BitVec.ofNat 8 (c.fwMajor.toNat * 16 + c.fwMinor.toNat), th.code]
    Host.Core.run core 5 { State.resetWith c b with thermal := th } = .next { State.resetWith c b with
      thermal := th
      nodeAddr := addr
      bank := List.replicate c.bankSize ⟨true, 0, 0⟩
      sched := .armed
      txBuf := F
      txOut := F.toList
      phase := .run }

/-- 70_reset_and_hazards.md R267, 93_implementation_defined.md U8: in `FAILED` no agent has a step, which the model answers
with a fault (log entry 8); only a reset of the node leads on (log entry 6). -/
def Obligations.FailedNodeStops : Prop :=
  ∀ s : State, s.phase = .failed → (∀ b, s.nextTurn ≠ .reset b) → step s = .fault .startupFailed

/-- 60_exceptions.md R220, R269: a node that has not failed always goes on, but for a host operation on an actuator that does
not exist. No report, boot step or frame stops it; that a turn offered to an agent without an enabled step is answered by a
next state is the model's choice (log entry 4), and so is the refusal that the premise on host indices leaves out (log entry
13). -/
def Obligations.TheBlockNeverStopsInService : Prop :=
  ∀ s : State, s.phase ≠ .failed →
    (∀ i, s.nextTurn = .host (.enable i) ∨ s.nextTurn = .host (.disable i) → i < s.cfg.bankSize) →
    ∃ t, step s = .next t

/-- 60_exceptions.md R229, R233: a step of a node that has not failed enters `FAILED` exactly when it reports an event of the
class fatal; a node reset apart. -/
def Obligations.OnlyFatalReportsAbortStartUp : Prop :=
  ∀ s t : State, step s = .next t → (∀ b, s.nextTurn ≠ .reset b) →
    (t.phase = .failed ↔ ∃ e, e.cls = .fatal ∧ t.reportOut = s.reportOut ++ [e])

/-- 42_transmit.md R165, 70_reset_and_hazards.md R261 to R267, R269: `RUN` and `ARMED` are never left, `FAILED` is entered only
from `BOOT(2)` and `BOOT(3)`, `ARMED` only from `BOOT(3)`, and from `BOOT(k)` the next phase is `BOOT(k)`, `BOOT(k+1)`, `RUN`
(from `BOOT(4)`) or `FAILED`; a node reset apart. -/
def Obligations.PhaseAndSchedulerNeverGoBack : Prop :=
  ∀ s t : State, step s = .next t → (∀ b, s.nextTurn ≠ .reset b) →
    (s.phase = .run → t.phase = .run) ∧ (s.sched = .armed → t.sched = .armed) ∧
    (t.phase = .failed → s.phase = .boot 2 ∨ s.phase = .boot 3) ∧
    (t.sched = .armed → s.sched = .armed ∨ s.phase = .boot 3) ∧
    (∀ k : Fin 5, s.phase = .boot k →
      t.phase = .boot k ∨ (∃ j : Fin 5, j.val = k.val + 1 ∧ t.phase = .boot j) ∨ (k = 4 ∧ t.phase = .run) ∨ t.phase = .failed)

/-- 10_state.md R31, R33: a `deliver` turn adds to the unread bytes and a `thermal` turn sets the thermal status, and
neither writes anything of the block. The third turn of the environment, a node reset, is apart
(ResetLeavesTheSpecifiedValues); a failed node is left out, where the model answers with a fault (log entry 8). -/
def Obligations.DeliverAndThermalTurnsWriteOnlyInputs : Prop :=
  ∀ s : State, s.phase ≠ .failed →
    (∀ bytes, s.nextTurn = .deliver bytes → step s = .next { s with turns := s.turns.tail, rxIn := s.rxIn ++ bytes }) ∧
    (∀ v, s.nextTurn = .thermal v → step s = .next { s with turns := s.turns.tail, thermal := v })

/-! ## Invariants -/

/-- 10_state.md R23, R24, R42: the invariant holds right after reset, for every configuration that meets R6. -/
def Obligations.ResetMeetsTheInvariant : Prop :=
  ∀ (c : Config) (b : BootInputs), c.Valid → (State.resetWith c b).Inv

/-- 10_state.md R22 to R24, 20_memory.md R75, 42_transmit.md R164, 70_reset_and_hazards.md R267: every step keeps the invariant:
the levels in range, exclusive and equal to the last writes made, the receive position coherent, whole frames of the block's
own on the wire, and the scheduler, the enables and the reports as the phase says. -/
def Obligations.EveryStepKeepsTheInvariant : Prop :=
  ∀ s t : State, s.Inv → step s = .next t → t.Inv

/-- 10_state.md R27, R30: no step writes the configuration, and `NODE_ADDR` is written only by the BOOT agent's
step in `BOOT(0)`; a node reset apart. -/
def Obligations.ConfigurationAndAddressAreFixed : Prop :=
  ∀ s t : State, step s = .next t →
    t.cfg = s.cfg ∧ ((∀ b, s.nextTurn ≠ .reset b) → ¬ (s.phase = .boot 0 ∧ s.nextTurn = .boot) → t.nodeAddr = s.nodeAddr)

/-- 30_encoding.md R113, log entry 7: a numbered word that the decoder reads as `i` is run as `i` by the step from the state it
is placed in. -/
def Obligations.PlacedWordRunsNext : Prop :=
  ∀ (s : State) (nbits w : Nat) (i : Instr), decodeTableWord nbits w = some i →
    ∃ F, decode F = .ok i ∧ step (s.withFetchWord nbits w) = exec i { s with
      rxBuf := F, rxState := .scan, rxCount := 0, nodeAddr := i.dest, phase := .run }
end

