-- ==== Sys2Proof/Laws/Codec.lean ====
section
/-! SUPPORT. The small lemmas of the codec: byte order (00_scope.md R11), the fields of a built frame (40_framecodec.md R123),
the outcomes of `validate` (R124), the checksum byte by byte (R120), and what the
decoder reads (30_encoding.md R107). -/

namespace Sys2Proof

/-! ## Byte order -/

/-- R11's `le16` on naturals. -/
theorem le16_toNat (a b : Byte) : (le16 a b).toNat = a.toNat + 256 * b.toNat := by
  have ha := a.isLt
  have h : (le16 a b).toNat = b.toNat <<< 8 ||| a.toNat := BitVec.toNat_append b a
  rw [h, ← Nat.shiftLeft_add_eq_or_of_lt ha, Nat.shiftLeft_eq]
  omega

/-- R11's `lo8` on naturals. -/
theorem lo8_toNat (v : Half) : (lo8 v).toNat = v.toNat % 256 := by
  simp [lo8]

/-- R11's `hi8` on naturals. -/
theorem hi8_toNat (v : Half) : (hi8 v).toNat = v.toNat / 256 := by
  have := v.isLt
  simp only [hi8, BitVec.toNat_setWidth, BitVec.toNat_ushiftRight, Nat.shiftRight_eq_div_pow]
  omega

@[simp] theorem le16_lo8_hi8 (v : Half) : le16 (lo8 v) (hi8 v) = v := by
  apply BitVec.eq_of_toNat_eq
  rw [le16_toNat, lo8_toNat, hi8_toNat]
  omega

@[simp] theorem lo8_le16 (a b : Byte) : lo8 (le16 a b) = a := by
  apply BitVec.eq_of_toNat_eq
  have := a.isLt
  rw [lo8_toNat, le16_toNat]
  omega

@[simp] theorem hi8_le16 (a b : Byte) : hi8 (le16 a b) = b := by
  apply BitVec.eq_of_toNat_eq
  have := a.isLt
  rw [hi8_toNat, le16_toNat]
  omega

/-- `le16` loses nothing of its two bytes. -/
theorem le16_inj {a b c d : Byte} : le16 a b = le16 c d ↔ a = c ∧ b = d := by
  constructor
  · intro h
    exact ⟨by simpa using congrArg lo8 h, by simpa using congrArg hi8 h⟩
  · rintro ⟨rfl, rfl⟩
    rfl

/-- `s16` is the two's-complement reading (R63). -/
theorem s16_eq_toInt (v : Half) : s16 v = v.toInt := by
  have := v.isLt
  simp only [s16, BitVec.toInt]
  split <;> split <;> omega

/-- `u16` undoes `s16` (R11). -/
@[simp] theorem u16_s16 (v : Half) : u16 (s16 v) = v := by
  simp [u16, s16_eq_toInt]

/-! ## The fields of a built frame -/

section build
variable (ver t : Byte) (d : Half) (p : List Byte)

@[simp] theorem build_dest : Frame.dest (build ver t d p) = d := by
  show le16 (lo8 d) (hi8 d) = d
  simp

@[simp] theorem build_ptype : Frame.ptype (build ver t d p) = t := rfl

@[simp] theorem build_magic0 : (build ver t d p)[0] = magic0 := rfl

@[simp] theorem build_magic1 : (build ver t d p)[1] = magic1 := rfl

@[simp] theorem build_version : (build ver t d p)[4] = ver := rfl

theorem build_covered : Frame.covered (build ver t d p) = [ver, t, p.getD 0 0, p.getD 1 0, p.getD 2 0, p.getD 3 0,
    p.getD 4 0, p.getD 5 0, p.getD 6 0, p.getD 7 0] := rfl

/-- The checksum field of a built frame is the checksum of its covered bytes (R97). -/
theorem build_csum : Frame.csum (build ver t d p) = checksum (Frame.covered (build ver t d p)) := by
  show le16 (lo8 _) (hi8 _) = _
  rw [le16_lo8_hi8]
  rfl

/-- Payload byte `j` of a built frame: the payload's, or the zero of the padding (R106, R123). -/
theorem build_payload (j : Nat) (hj : j < 8) : (build ver t d p)[6 + j] = p.getD j 0 := by
  interval_cases j <;> rfl

end build

/-! ## validate -/

/-- Everything `validate` can answer, with the tests that lead there (R124). -/
theorem validate_cases (ver : Byte) (B : Frame) :
    (validate ver B = .error .badMagic ∧ (B[0] ≠ magic0 ∨ B[1] ≠ magic1)) ∨
    (validate ver B = .error .badChecksum ∧ B[0] = magic0 ∧ B[1] = magic1 ∧ Frame.csum B ≠ checksum (Frame.covered B)) ∨
    (validate ver B = .error .badVersion ∧ B[0] = magic0 ∧ B[1] = magic1 ∧ Frame.csum B = checksum (Frame.covered B)
      ∧ B[4] ≠ ver) ∨
    (validate ver B = .ok B ∧ B[0] = magic0 ∧ B[1] = magic1 ∧ Frame.csum B = checksum (Frame.covered B) ∧ B[4] = ver) := by
  unfold validate
  by_cases h0 : B[0] = magic0 <;> by_cases h1 : B[1] = magic1 <;>
    by_cases h2 : Frame.csum B = checksum (Frame.covered B) <;> by_cases h3 : B[4] = ver <;> simp [h0, h1, h2, h3]

/-- A frame passes exactly when magic, checksum and version are right (R124). -/
theorem validate_ok_iff (ver : Byte) (B F : Frame) :
    validate ver B = .ok F ↔ F = B ∧ B[0] = magic0 ∧ B[1] = magic1
      ∧ Frame.csum B = checksum (Frame.covered B) ∧ B[4] = ver := by
  rcases validate_cases ver B with ⟨h, h'⟩ | ⟨h, h'⟩ | ⟨h, h'⟩ | ⟨h, h'⟩ <;> rw [h]
  · constructor
    · intro h
      cases h
    · rintro ⟨_, a, b, _⟩
      cases h' <;> contradiction
  · constructor
    · intro h
      cases h
    · rintro ⟨_, _, _, a, _⟩
      exact absurd a h'.2.2
  · constructor
    · intro h
      cases h
    · rintro ⟨_, _, _, _, a⟩
      exact absurd a h'.2.2.2
  · simp [h', eq_comm]

/-! ## The checksum -/

@[simp] theorem checksum_nil : checksum [] = crcSeed := rfl

theorem checksum_append (xs ys : List Byte) : checksum (xs ++ ys) = ys.foldl crcByte (checksum xs) := by
  simp [checksum, List.foldl_append]

/-- What one byte adds to the shifted checksum, as a function of `tmp0` (R120). -/
def crcMix (x : Byte) : Half :=
  let t := (x ^^^ (x >>> 4)).setWidth 16
  (t <<< 12) ^^^ (t <<< 5) ^^^ t

theorem crcByte_eq (crc : Half) (b : Byte) : crcByte crc b = (crc <<< 8) ^^^ crcMix (hi8 crc ^^^ b) := by
  simp only [crcByte, crcMix, BitVec.xor_assoc]

/-- The low byte of what a byte adds determines `tmp0`. -/
theorem crcMix_lo8_injective : Function.Injective fun x : Byte => lo8 (crcMix x) := by
  have h : ∀ x y : Fin 256, lo8 (crcMix (BitVec.ofFin x)) = lo8 (crcMix (BitVec.ofFin y)) → x = y := by
    have key : ∀ x : Fin 256, (fun u : Byte =>
        let v := u ^^^ (u <<< 5)
        v ^^^ (v >>> 4)) (lo8 (crcMix (BitVec.ofFin x))) = BitVec.ofFin x := by decide +kernel
    intro x y hxy
    have hx := key x
    rw [hxy, key y] at hx
    exact (BitVec.ofFin.inj hx).symm
  intro x y hxy
  have := h x.toFin y.toFin hxy
  exact BitVec.toFin_inj.mp this

@[simp] theorem lo8_xor (a b : Half) : lo8 (a ^^^ b) = lo8 a ^^^ lo8 b := by
  simp [lo8]

@[simp] theorem lo8_shiftLeft_8 (a : Half) : lo8 (a <<< 8) = 0 := by
  apply BitVec.eq_of_toNat_eq
  simp [lo8_toNat, BitVec.toNat_shiftLeft, Nat.shiftLeft_eq]

@[simp] theorem hi8_shiftLeft_8 (a : Half) : hi8 (a <<< 8) = lo8 a := by
  apply BitVec.eq_of_toNat_eq
  rw [lo8_toNat, hi8_toNat, BitVec.toNat_shiftLeft, Nat.shiftLeft_eq]
  omega

/-- One byte of the checksum loop tells any two bytes apart. -/
theorem crcByte_inj_right (c : Half) {a b : Byte} (h : crcByte c a = crcByte c b) : a = b := by
  rw [crcByte_eq, crcByte_eq] at h
  have h2 : crcMix (hi8 c ^^^ a) = crcMix (hi8 c ^^^ b) := by
    have := congrArg (fun x => (c <<< 8) ^^^ x) h
    simpa [← BitVec.xor_assoc] using this
  have h3 := crcMix_lo8_injective (congrArg lo8 h2)
  have := congrArg (fun x => hi8 c ^^^ x) h3
  simpa [← BitVec.xor_assoc] using this

/-- One byte of the checksum loop tells any two earlier checksums apart. -/
theorem crcByte_inj_left (b : Byte) {c d : Half} (h : crcByte c b = crcByte d b) : c = d := by
  rw [crcByte_eq, crcByte_eq] at h
  have hl := congrArg lo8 h
  rw [lo8_xor, lo8_xor, lo8_shiftLeft_8, lo8_shiftLeft_8] at hl
  have h1 : hi8 c ^^^ b = hi8 d ^^^ b := crcMix_lo8_injective (by simpa using hl)
  rw [h1] at h
  have h2 : c <<< 8 = d <<< 8 := by
    have := congrArg (fun x => x ^^^ crcMix (hi8 d ^^^ b)) h
    simpa [BitVec.xor_assoc] using this
  have h3 : lo8 c = lo8 d := by
    rw [← hi8_shiftLeft_8, ← hi8_shiftLeft_8, h2]
  have h4 : hi8 c = hi8 d := by
    have := congrArg (fun x => x ^^^ b) h1
    simpa [BitVec.xor_assoc] using this
  rw [← le16_lo8_hi8 c, ← le16_lo8_hi8 d, h3, h4]

/-- The bytes that follow lose no difference. -/
theorem foldl_crcByte_inj (l : List Byte) {c d : Half} (h : l.foldl crcByte c = l.foldl crcByte d) : c = d := by
  induction l generalizing c d with
  | nil => exact h
  | cons x xs ih => exact crcByte_inj_left x (ih h)

/-- The checksum tells two lists apart that differ in one byte. -/
theorem checksum_inj_at (pre post : List Byte) {a b : Byte}
    (h : checksum (pre ++ a :: post) = checksum (pre ++ b :: post)) : a = b := by
  rw [checksum_append, checksum_append] at h
  exact crcByte_inj_right _ (foldl_crcByte_inj post h)

/-! ## The decoder -/

/-- The check that runs says what `WellFormed` says. -/
theorem Instr.wellFormed_iff (i : Instr) : i.wellFormed = true ↔ i.WellFormed := by
  cases i <;> simp [Instr.wellFormed, Instr.WellFormed, imp_iff_not_or]

/-- Everything `decode` can read, with the tests that lead there (R107). -/
theorem decode_ok_cases {F : Frame} {i : Instr} (h : decode F = .ok i) :
    F[0] = magic0 ∧ F[1] = magic1 ∧ F[5] = i.typeCode ∧
      (i = .devinfo F.dest (le16 F[6] F[7]) F[8] F[9] ∨
        (i = .halt F.dest ∧ F[6] = haltId ∧ le16 F[7] F[8] = 0) ∨
        (i = .solenoid F.dest F[6] (le16 F[7] F[8]) ∧ ¬ (F[6] = haltId ∧ le16 F[7] F[8] = 0)) ∨
        i = .temp F.dest (le16 F[6] F[7]) ∨
        i = .accel F.dest (le16 F[6] F[7]) (le16 F[8] F[9]) (le16 F[10] F[11]) ∨
        i = .angvel F.dest (le16 F[6] F[7]) (le16 F[8] F[9]) (le16 F[10] F[11]) ∨
        i = .direction F.dest (le16 F[6] F[7]) (le16 F[8] F[9]) (le16 F[10] F[11])) := by
  unfold decode at h
  split at h
  · cases h
  rename_i hm
  push Not at hm
  refine ⟨hm.1, hm.2, ?_⟩
  show F.ptype = _ ∧ _
  split at h
  · cases h
    rename_i hp
    exact ⟨hp, .inl rfl⟩
  split at h
  · rename_i hp
    split at h <;> rename_i hh <;> cases h
    · exact ⟨hp, .inr (.inl ⟨rfl, hh⟩)⟩
    · exact ⟨hp, .inr (.inr (.inl ⟨rfl, hh⟩))⟩
  repeat
    split at h
    · cases h
      rename_i hp
      exact ⟨hp, by simp⟩
  cases h

end Sys2Proof
end

