-- ==== Sys2Proof/Laws/State.lean ====
section
/-! SUPPORT. One lemma per field per update of the state, each true by definition, so that no later proof unfolds an update. -/

namespace Sys2Proof.Machine

variable (s : State)

/-! ## `State.setBank` -/

@[simp] theorem State.setBank_bank (b : List Actuator) : (s.setBank b).bank = b := rfl
@[simp] theorem State.setBank_rxState (b : List Actuator) : (s.setBank b).rxState = s.rxState := rfl
@[simp] theorem State.setBank_rxCount (b : List Actuator) : (s.setBank b).rxCount = s.rxCount := rfl
@[simp] theorem State.setBank_rxBuf (b : List Actuator) : (s.setBank b).rxBuf = s.rxBuf := rfl
@[simp] theorem State.setBank_txBuf (b : List Actuator) : (s.setBank b).txBuf = s.txBuf := rfl
@[simp] theorem State.setBank_nodeAddr (b : List Actuator) : (s.setBank b).nodeAddr = s.nodeAddr := rfl
@[simp] theorem State.setBank_sched (b : List Actuator) : (s.setBank b).sched = s.sched := rfl
@[simp] theorem State.setBank_phase (b : List Actuator) : (s.setBank b).phase = s.phase := rfl
@[simp] theorem State.setBank_txOut (b : List Actuator) : (s.setBank b).txOut = s.txOut := rfl
@[simp] theorem State.setBank_reportOut (b : List Actuator) : (s.setBank b).reportOut = s.reportOut := rfl
@[simp] theorem State.setBank_pwmOut (b : List Actuator) : (s.setBank b).pwmOut = s.pwmOut := rfl
@[simp] theorem State.setBank_cfg (b : List Actuator) : (s.setBank b).cfg = s.cfg := rfl
@[simp] theorem State.setBank_rxIn (b : List Actuator) : (s.setBank b).rxIn = s.rxIn := rfl
@[simp] theorem State.setBank_thermal (b : List Actuator) : (s.setBank b).thermal = s.thermal := rfl
@[simp] theorem State.setBank_bootIn (b : List Actuator) : (s.setBank b).bootIn = s.bootIn := rfl
@[simp] theorem State.setBank_turns (b : List Actuator) : (s.setBank b).turns = s.turns := rfl

/-! ## `State.setRxPos` -/

@[simp] theorem State.setRxPos_bank (st : RxState) (n : Fin 16) : (s.setRxPos st n).bank = s.bank := rfl
@[simp] theorem State.setRxPos_rxState (st : RxState) (n : Fin 16) : (s.setRxPos st n).rxState = st := rfl
@[simp] theorem State.setRxPos_rxCount (st : RxState) (n : Fin 16) : (s.setRxPos st n).rxCount = n := rfl
@[simp] theorem State.setRxPos_rxBuf (st : RxState) (n : Fin 16) : (s.setRxPos st n).rxBuf = s.rxBuf := rfl
@[simp] theorem State.setRxPos_txBuf (st : RxState) (n : Fin 16) : (s.setRxPos st n).txBuf = s.txBuf := rfl
@[simp] theorem State.setRxPos_nodeAddr (st : RxState) (n : Fin 16) : (s.setRxPos st n).nodeAddr = s.nodeAddr := rfl
@[simp] theorem State.setRxPos_sched (st : RxState) (n : Fin 16) : (s.setRxPos st n).sched = s.sched := rfl
@[simp] theorem State.setRxPos_phase (st : RxState) (n : Fin 16) : (s.setRxPos st n).phase = s.phase := rfl
@[simp] theorem State.setRxPos_txOut (st : RxState) (n : Fin 16) : (s.setRxPos st n).txOut = s.txOut := rfl
@[simp] theorem State.setRxPos_reportOut (st : RxState) (n : Fin 16) : (s.setRxPos st n).reportOut = s.reportOut := rfl
@[simp] theorem State.setRxPos_pwmOut (st : RxState) (n : Fin 16) : (s.setRxPos st n).pwmOut = s.pwmOut := rfl
@[simp] theorem State.setRxPos_cfg (st : RxState) (n : Fin 16) : (s.setRxPos st n).cfg = s.cfg := rfl
@[simp] theorem State.setRxPos_rxIn (st : RxState) (n : Fin 16) : (s.setRxPos st n).rxIn = s.rxIn := rfl
@[simp] theorem State.setRxPos_thermal (st : RxState) (n : Fin 16) : (s.setRxPos st n).thermal = s.thermal := rfl
@[simp] theorem State.setRxPos_bootIn (st : RxState) (n : Fin 16) : (s.setRxPos st n).bootIn = s.bootIn := rfl
@[simp] theorem State.setRxPos_turns (st : RxState) (n : Fin 16) : (s.setRxPos st n).turns = s.turns := rfl

/-! ## `State.setRxBuf` -/

@[simp] theorem State.setRxBuf_bank (F : Frame) : (s.setRxBuf F).bank = s.bank := rfl
@[simp] theorem State.setRxBuf_rxState (F : Frame) : (s.setRxBuf F).rxState = s.rxState := rfl
@[simp] theorem State.setRxBuf_rxCount (F : Frame) : (s.setRxBuf F).rxCount = s.rxCount := rfl
@[simp] theorem State.setRxBuf_rxBuf (F : Frame) : (s.setRxBuf F).rxBuf = F := rfl
@[simp] theorem State.setRxBuf_txBuf (F : Frame) : (s.setRxBuf F).txBuf = s.txBuf := rfl
@[simp] theorem State.setRxBuf_nodeAddr (F : Frame) : (s.setRxBuf F).nodeAddr = s.nodeAddr := rfl
@[simp] theorem State.setRxBuf_sched (F : Frame) : (s.setRxBuf F).sched = s.sched := rfl
@[simp] theorem State.setRxBuf_phase (F : Frame) : (s.setRxBuf F).phase = s.phase := rfl
@[simp] theorem State.setRxBuf_txOut (F : Frame) : (s.setRxBuf F).txOut = s.txOut := rfl
@[simp] theorem State.setRxBuf_reportOut (F : Frame) : (s.setRxBuf F).reportOut = s.reportOut := rfl
@[simp] theorem State.setRxBuf_pwmOut (F : Frame) : (s.setRxBuf F).pwmOut = s.pwmOut := rfl
@[simp] theorem State.setRxBuf_cfg (F : Frame) : (s.setRxBuf F).cfg = s.cfg := rfl
@[simp] theorem State.setRxBuf_rxIn (F : Frame) : (s.setRxBuf F).rxIn = s.rxIn := rfl
@[simp] theorem State.setRxBuf_thermal (F : Frame) : (s.setRxBuf F).thermal = s.thermal := rfl
@[simp] theorem State.setRxBuf_bootIn (F : Frame) : (s.setRxBuf F).bootIn = s.bootIn := rfl
@[simp] theorem State.setRxBuf_turns (F : Frame) : (s.setRxBuf F).turns = s.turns := rfl

/-! ## `State.setTxBuf` -/

@[simp] theorem State.setTxBuf_bank (F : Frame) : (s.setTxBuf F).bank = s.bank := rfl
@[simp] theorem State.setTxBuf_rxState (F : Frame) : (s.setTxBuf F).rxState = s.rxState := rfl
@[simp] theorem State.setTxBuf_rxCount (F : Frame) : (s.setTxBuf F).rxCount = s.rxCount := rfl
@[simp] theorem State.setTxBuf_rxBuf (F : Frame) : (s.setTxBuf F).rxBuf = s.rxBuf := rfl
@[simp] theorem State.setTxBuf_txBuf (F : Frame) : (s.setTxBuf F).txBuf = F := rfl
@[simp] theorem State.setTxBuf_nodeAddr (F : Frame) : (s.setTxBuf F).nodeAddr = s.nodeAddr := rfl
@[simp] theorem State.setTxBuf_sched (F : Frame) : (s.setTxBuf F).sched = s.sched := rfl
@[simp] theorem State.setTxBuf_phase (F : Frame) : (s.setTxBuf F).phase = s.phase := rfl
@[simp] theorem State.setTxBuf_txOut (F : Frame) : (s.setTxBuf F).txOut = s.txOut := rfl
@[simp] theorem State.setTxBuf_reportOut (F : Frame) : (s.setTxBuf F).reportOut = s.reportOut := rfl
@[simp] theorem State.setTxBuf_pwmOut (F : Frame) : (s.setTxBuf F).pwmOut = s.pwmOut := rfl
@[simp] theorem State.setTxBuf_cfg (F : Frame) : (s.setTxBuf F).cfg = s.cfg := rfl
@[simp] theorem State.setTxBuf_rxIn (F : Frame) : (s.setTxBuf F).rxIn = s.rxIn := rfl
@[simp] theorem State.setTxBuf_thermal (F : Frame) : (s.setTxBuf F).thermal = s.thermal := rfl
@[simp] theorem State.setTxBuf_bootIn (F : Frame) : (s.setTxBuf F).bootIn = s.bootIn := rfl
@[simp] theorem State.setTxBuf_turns (F : Frame) : (s.setTxBuf F).turns = s.turns := rfl

/-! ## `State.setNodeAddr` -/

@[simp] theorem State.setNodeAddr_bank (a : Half) : (s.setNodeAddr a).bank = s.bank := rfl
@[simp] theorem State.setNodeAddr_rxState (a : Half) : (s.setNodeAddr a).rxState = s.rxState := rfl
@[simp] theorem State.setNodeAddr_rxCount (a : Half) : (s.setNodeAddr a).rxCount = s.rxCount := rfl
@[simp] theorem State.setNodeAddr_rxBuf (a : Half) : (s.setNodeAddr a).rxBuf = s.rxBuf := rfl
@[simp] theorem State.setNodeAddr_txBuf (a : Half) : (s.setNodeAddr a).txBuf = s.txBuf := rfl
@[simp] theorem State.setNodeAddr_nodeAddr (a : Half) : (s.setNodeAddr a).nodeAddr = a := rfl
@[simp] theorem State.setNodeAddr_sched (a : Half) : (s.setNodeAddr a).sched = s.sched := rfl
@[simp] theorem State.setNodeAddr_phase (a : Half) : (s.setNodeAddr a).phase = s.phase := rfl
@[simp] theorem State.setNodeAddr_txOut (a : Half) : (s.setNodeAddr a).txOut = s.txOut := rfl
@[simp] theorem State.setNodeAddr_reportOut (a : Half) : (s.setNodeAddr a).reportOut = s.reportOut := rfl
@[simp] theorem State.setNodeAddr_pwmOut (a : Half) : (s.setNodeAddr a).pwmOut = s.pwmOut := rfl
@[simp] theorem State.setNodeAddr_cfg (a : Half) : (s.setNodeAddr a).cfg = s.cfg := rfl
@[simp] theorem State.setNodeAddr_rxIn (a : Half) : (s.setNodeAddr a).rxIn = s.rxIn := rfl
@[simp] theorem State.setNodeAddr_thermal (a : Half) : (s.setNodeAddr a).thermal = s.thermal := rfl
@[simp] theorem State.setNodeAddr_bootIn (a : Half) : (s.setNodeAddr a).bootIn = s.bootIn := rfl
@[simp] theorem State.setNodeAddr_turns (a : Half) : (s.setNodeAddr a).turns = s.turns := rfl

/-! ## `State.setSched` -/

@[simp] theorem State.setSched_bank (v : SchedState) : (s.setSched v).bank = s.bank := rfl
@[simp] theorem State.setSched_rxState (v : SchedState) : (s.setSched v).rxState = s.rxState := rfl
@[simp] theorem State.setSched_rxCount (v : SchedState) : (s.setSched v).rxCount = s.rxCount := rfl
@[simp] theorem State.setSched_rxBuf (v : SchedState) : (s.setSched v).rxBuf = s.rxBuf := rfl
@[simp] theorem State.setSched_txBuf (v : SchedState) : (s.setSched v).txBuf = s.txBuf := rfl
@[simp] theorem State.setSched_nodeAddr (v : SchedState) : (s.setSched v).nodeAddr = s.nodeAddr := rfl
@[simp] theorem State.setSched_sched (v : SchedState) : (s.setSched v).sched = v := rfl
@[simp] theorem State.setSched_phase (v : SchedState) : (s.setSched v).phase = s.phase := rfl
@[simp] theorem State.setSched_txOut (v : SchedState) : (s.setSched v).txOut = s.txOut := rfl
@[simp] theorem State.setSched_reportOut (v : SchedState) : (s.setSched v).reportOut = s.reportOut := rfl
@[simp] theorem State.setSched_pwmOut (v : SchedState) : (s.setSched v).pwmOut = s.pwmOut := rfl
@[simp] theorem State.setSched_cfg (v : SchedState) : (s.setSched v).cfg = s.cfg := rfl
@[simp] theorem State.setSched_rxIn (v : SchedState) : (s.setSched v).rxIn = s.rxIn := rfl
@[simp] theorem State.setSched_thermal (v : SchedState) : (s.setSched v).thermal = s.thermal := rfl
@[simp] theorem State.setSched_bootIn (v : SchedState) : (s.setSched v).bootIn = s.bootIn := rfl
@[simp] theorem State.setSched_turns (v : SchedState) : (s.setSched v).turns = s.turns := rfl

/-! ## `State.setPhase` -/

@[simp] theorem State.setPhase_bank (p : Phase) : (s.setPhase p).bank = s.bank := rfl
@[simp] theorem State.setPhase_rxState (p : Phase) : (s.setPhase p).rxState = s.rxState := rfl
@[simp] theorem State.setPhase_rxCount (p : Phase) : (s.setPhase p).rxCount = s.rxCount := rfl
@[simp] theorem State.setPhase_rxBuf (p : Phase) : (s.setPhase p).rxBuf = s.rxBuf := rfl
@[simp] theorem State.setPhase_txBuf (p : Phase) : (s.setPhase p).txBuf = s.txBuf := rfl
@[simp] theorem State.setPhase_nodeAddr (p : Phase) : (s.setPhase p).nodeAddr = s.nodeAddr := rfl
@[simp] theorem State.setPhase_sched (p : Phase) : (s.setPhase p).sched = s.sched := rfl
@[simp] theorem State.setPhase_phase (p : Phase) : (s.setPhase p).phase = p := rfl
@[simp] theorem State.setPhase_txOut (p : Phase) : (s.setPhase p).txOut = s.txOut := rfl
@[simp] theorem State.setPhase_reportOut (p : Phase) : (s.setPhase p).reportOut = s.reportOut := rfl
@[simp] theorem State.setPhase_pwmOut (p : Phase) : (s.setPhase p).pwmOut = s.pwmOut := rfl
@[simp] theorem State.setPhase_cfg (p : Phase) : (s.setPhase p).cfg = s.cfg := rfl
@[simp] theorem State.setPhase_rxIn (p : Phase) : (s.setPhase p).rxIn = s.rxIn := rfl
@[simp] theorem State.setPhase_thermal (p : Phase) : (s.setPhase p).thermal = s.thermal := rfl
@[simp] theorem State.setPhase_bootIn (p : Phase) : (s.setPhase p).bootIn = s.bootIn := rfl
@[simp] theorem State.setPhase_turns (p : Phase) : (s.setPhase p).turns = s.turns := rfl

/-! ## `State.setRxIn` -/

@[simp] theorem State.setRxIn_bank (bs : List Byte) : (s.setRxIn bs).bank = s.bank := rfl
@[simp] theorem State.setRxIn_rxState (bs : List Byte) : (s.setRxIn bs).rxState = s.rxState := rfl
@[simp] theorem State.setRxIn_rxCount (bs : List Byte) : (s.setRxIn bs).rxCount = s.rxCount := rfl
@[simp] theorem State.setRxIn_rxBuf (bs : List Byte) : (s.setRxIn bs).rxBuf = s.rxBuf := rfl
@[simp] theorem State.setRxIn_txBuf (bs : List Byte) : (s.setRxIn bs).txBuf = s.txBuf := rfl
@[simp] theorem State.setRxIn_nodeAddr (bs : List Byte) : (s.setRxIn bs).nodeAddr = s.nodeAddr := rfl
@[simp] theorem State.setRxIn_sched (bs : List Byte) : (s.setRxIn bs).sched = s.sched := rfl
@[simp] theorem State.setRxIn_phase (bs : List Byte) : (s.setRxIn bs).phase = s.phase := rfl
@[simp] theorem State.setRxIn_txOut (bs : List Byte) : (s.setRxIn bs).txOut = s.txOut := rfl
@[simp] theorem State.setRxIn_reportOut (bs : List Byte) : (s.setRxIn bs).reportOut = s.reportOut := rfl
@[simp] theorem State.setRxIn_pwmOut (bs : List Byte) : (s.setRxIn bs).pwmOut = s.pwmOut := rfl
@[simp] theorem State.setRxIn_cfg (bs : List Byte) : (s.setRxIn bs).cfg = s.cfg := rfl
@[simp] theorem State.setRxIn_rxIn (bs : List Byte) : (s.setRxIn bs).rxIn = bs := rfl
@[simp] theorem State.setRxIn_thermal (bs : List Byte) : (s.setRxIn bs).thermal = s.thermal := rfl
@[simp] theorem State.setRxIn_bootIn (bs : List Byte) : (s.setRxIn bs).bootIn = s.bootIn := rfl
@[simp] theorem State.setRxIn_turns (bs : List Byte) : (s.setRxIn bs).turns = s.turns := rfl

/-! ## `State.setThermal` -/

@[simp] theorem State.setThermal_bank (v : Thermal) : (s.setThermal v).bank = s.bank := rfl
@[simp] theorem State.setThermal_rxState (v : Thermal) : (s.setThermal v).rxState = s.rxState := rfl
@[simp] theorem State.setThermal_rxCount (v : Thermal) : (s.setThermal v).rxCount = s.rxCount := rfl
@[simp] theorem State.setThermal_rxBuf (v : Thermal) : (s.setThermal v).rxBuf = s.rxBuf := rfl
@[simp] theorem State.setThermal_txBuf (v : Thermal) : (s.setThermal v).txBuf = s.txBuf := rfl
@[simp] theorem State.setThermal_nodeAddr (v : Thermal) : (s.setThermal v).nodeAddr = s.nodeAddr := rfl
@[simp] theorem State.setThermal_sched (v : Thermal) : (s.setThermal v).sched = s.sched := rfl
@[simp] theorem State.setThermal_phase (v : Thermal) : (s.setThermal v).phase = s.phase := rfl
@[simp] theorem State.setThermal_txOut (v : Thermal) : (s.setThermal v).txOut = s.txOut := rfl
@[simp] theorem State.setThermal_reportOut (v : Thermal) : (s.setThermal v).reportOut = s.reportOut := rfl
@[simp] theorem State.setThermal_pwmOut (v : Thermal) : (s.setThermal v).pwmOut = s.pwmOut := rfl
@[simp] theorem State.setThermal_cfg (v : Thermal) : (s.setThermal v).cfg = s.cfg := rfl
@[simp] theorem State.setThermal_rxIn (v : Thermal) : (s.setThermal v).rxIn = s.rxIn := rfl
@[simp] theorem State.setThermal_thermal (v : Thermal) : (s.setThermal v).thermal = v := rfl
@[simp] theorem State.setThermal_bootIn (v : Thermal) : (s.setThermal v).bootIn = s.bootIn := rfl
@[simp] theorem State.setThermal_turns (v : Thermal) : (s.setThermal v).turns = s.turns := rfl

/-! ## `State.setTurns` -/

@[simp] theorem State.setTurns_bank (ts : List Turn) : (s.setTurns ts).bank = s.bank := rfl
@[simp] theorem State.setTurns_rxState (ts : List Turn) : (s.setTurns ts).rxState = s.rxState := rfl
@[simp] theorem State.setTurns_rxCount (ts : List Turn) : (s.setTurns ts).rxCount = s.rxCount := rfl
@[simp] theorem State.setTurns_rxBuf (ts : List Turn) : (s.setTurns ts).rxBuf = s.rxBuf := rfl
@[simp] theorem State.setTurns_txBuf (ts : List Turn) : (s.setTurns ts).txBuf = s.txBuf := rfl
@[simp] theorem State.setTurns_nodeAddr (ts : List Turn) : (s.setTurns ts).nodeAddr = s.nodeAddr := rfl
@[simp] theorem State.setTurns_sched (ts : List Turn) : (s.setTurns ts).sched = s.sched := rfl
@[simp] theorem State.setTurns_phase (ts : List Turn) : (s.setTurns ts).phase = s.phase := rfl
@[simp] theorem State.setTurns_txOut (ts : List Turn) : (s.setTurns ts).txOut = s.txOut := rfl
@[simp] theorem State.setTurns_reportOut (ts : List Turn) : (s.setTurns ts).reportOut = s.reportOut := rfl
@[simp] theorem State.setTurns_pwmOut (ts : List Turn) : (s.setTurns ts).pwmOut = s.pwmOut := rfl
@[simp] theorem State.setTurns_cfg (ts : List Turn) : (s.setTurns ts).cfg = s.cfg := rfl
@[simp] theorem State.setTurns_rxIn (ts : List Turn) : (s.setTurns ts).rxIn = s.rxIn := rfl
@[simp] theorem State.setTurns_thermal (ts : List Turn) : (s.setTurns ts).thermal = s.thermal := rfl
@[simp] theorem State.setTurns_bootIn (ts : List Turn) : (s.setTurns ts).bootIn = s.bootIn := rfl
@[simp] theorem State.setTurns_turns (ts : List Turn) : (s.setTurns ts).turns = ts := rfl

/-! ## `State.txEmit` -/

@[simp] theorem State.txEmit_bank (F : Frame) : (s.txEmit F).bank = s.bank := rfl
@[simp] theorem State.txEmit_rxState (F : Frame) : (s.txEmit F).rxState = s.rxState := rfl
@[simp] theorem State.txEmit_rxCount (F : Frame) : (s.txEmit F).rxCount = s.rxCount := rfl
@[simp] theorem State.txEmit_rxBuf (F : Frame) : (s.txEmit F).rxBuf = s.rxBuf := rfl
@[simp] theorem State.txEmit_txBuf (F : Frame) : (s.txEmit F).txBuf = s.txBuf := rfl
@[simp] theorem State.txEmit_nodeAddr (F : Frame) : (s.txEmit F).nodeAddr = s.nodeAddr := rfl
@[simp] theorem State.txEmit_sched (F : Frame) : (s.txEmit F).sched = s.sched := rfl
@[simp] theorem State.txEmit_phase (F : Frame) : (s.txEmit F).phase = s.phase := rfl
@[simp] theorem State.txEmit_txOut (F : Frame) : (s.txEmit F).txOut = s.txOut ++ F.bytes := rfl
@[simp] theorem State.txEmit_reportOut (F : Frame) : (s.txEmit F).reportOut = s.reportOut := rfl
@[simp] theorem State.txEmit_pwmOut (F : Frame) : (s.txEmit F).pwmOut = s.pwmOut := rfl
@[simp] theorem State.txEmit_cfg (F : Frame) : (s.txEmit F).cfg = s.cfg := rfl
@[simp] theorem State.txEmit_rxIn (F : Frame) : (s.txEmit F).rxIn = s.rxIn := rfl
@[simp] theorem State.txEmit_thermal (F : Frame) : (s.txEmit F).thermal = s.thermal := rfl
@[simp] theorem State.txEmit_bootIn (F : Frame) : (s.txEmit F).bootIn = s.bootIn := rfl
@[simp] theorem State.txEmit_turns (F : Frame) : (s.txEmit F).turns = s.turns := rfl

/-! ## `State.pwmWrite` -/

@[simp] theorem State.pwmWrite_bank (w : PwmWrite) : (s.pwmWrite w).bank = s.bank := rfl
@[simp] theorem State.pwmWrite_rxState (w : PwmWrite) : (s.pwmWrite w).rxState = s.rxState := rfl
@[simp] theorem State.pwmWrite_rxCount (w : PwmWrite) : (s.pwmWrite w).rxCount = s.rxCount := rfl
@[simp] theorem State.pwmWrite_rxBuf (w : PwmWrite) : (s.pwmWrite w).rxBuf = s.rxBuf := rfl
@[simp] theorem State.pwmWrite_txBuf (w : PwmWrite) : (s.pwmWrite w).txBuf = s.txBuf := rfl
@[simp] theorem State.pwmWrite_nodeAddr (w : PwmWrite) : (s.pwmWrite w).nodeAddr = s.nodeAddr := rfl
@[simp] theorem State.pwmWrite_sched (w : PwmWrite) : (s.pwmWrite w).sched = s.sched := rfl
@[simp] theorem State.pwmWrite_phase (w : PwmWrite) : (s.pwmWrite w).phase = s.phase := rfl
@[simp] theorem State.pwmWrite_txOut (w : PwmWrite) : (s.pwmWrite w).txOut = s.txOut := rfl
@[simp] theorem State.pwmWrite_reportOut (w : PwmWrite) : (s.pwmWrite w).reportOut = s.reportOut := rfl
@[simp] theorem State.pwmWrite_pwmOut (w : PwmWrite) : (s.pwmWrite w).pwmOut = s.pwmOut ++ [w] := rfl
@[simp] theorem State.pwmWrite_cfg (w : PwmWrite) : (s.pwmWrite w).cfg = s.cfg := rfl
@[simp] theorem State.pwmWrite_rxIn (w : PwmWrite) : (s.pwmWrite w).rxIn = s.rxIn := rfl
@[simp] theorem State.pwmWrite_thermal (w : PwmWrite) : (s.pwmWrite w).thermal = s.thermal := rfl
@[simp] theorem State.pwmWrite_bootIn (w : PwmWrite) : (s.pwmWrite w).bootIn = s.bootIn := rfl
@[simp] theorem State.pwmWrite_turns (w : PwmWrite) : (s.pwmWrite w).turns = s.turns := rfl

/-! ## `State.report` -/

@[simp] theorem State.report_bank (e : Report) : (s.report e).bank = s.bank := rfl
@[simp] theorem State.report_rxState (e : Report) : (s.report e).rxState = s.rxState := rfl
@[simp] theorem State.report_rxCount (e : Report) : (s.report e).rxCount = s.rxCount := rfl
@[simp] theorem State.report_rxBuf (e : Report) : (s.report e).rxBuf = s.rxBuf := rfl
@[simp] theorem State.report_txBuf (e : Report) : (s.report e).txBuf = s.txBuf := rfl
@[simp] theorem State.report_nodeAddr (e : Report) : (s.report e).nodeAddr = s.nodeAddr := rfl
@[simp] theorem State.report_sched (e : Report) : (s.report e).sched = s.sched := rfl
@[simp] theorem State.report_phase (e : Report) : (s.report e).phase = s.phase := rfl
@[simp] theorem State.report_txOut (e : Report) : (s.report e).txOut = s.txOut := rfl
@[simp] theorem State.report_reportOut (e : Report) : (s.report e).reportOut = s.reportOut ++ [e] := rfl
@[simp] theorem State.report_pwmOut (e : Report) : (s.report e).pwmOut = s.pwmOut := rfl
@[simp] theorem State.report_cfg (e : Report) : (s.report e).cfg = s.cfg := rfl
@[simp] theorem State.report_rxIn (e : Report) : (s.report e).rxIn = s.rxIn := rfl
@[simp] theorem State.report_thermal (e : Report) : (s.report e).thermal = s.thermal := rfl
@[simp] theorem State.report_bootIn (e : Report) : (s.report e).bootIn = s.bootIn := rfl
@[simp] theorem State.report_turns (e : Report) : (s.report e).turns = s.turns := rfl

/-! ## `State.resetWith` -/

@[simp] theorem State.resetWith_bank (c : Config) (b : BootInputs) : (State.resetWith c b).bank = List.replicate c.bankSize Actuator.atReset := rfl
@[simp] theorem State.resetWith_rxState (c : Config) (b : BootInputs) : (State.resetWith c b).rxState = .scan := rfl
@[simp] theorem State.resetWith_rxCount (c : Config) (b : BootInputs) : (State.resetWith c b).rxCount = 0 := rfl
@[simp] theorem State.resetWith_sched (c : Config) (b : BootInputs) : (State.resetWith c b).sched = .idle := rfl
@[simp] theorem State.resetWith_phase (c : Config) (b : BootInputs) : (State.resetWith c b).phase = .boot 0 := rfl
@[simp] theorem State.resetWith_txOut (c : Config) (b : BootInputs) : (State.resetWith c b).txOut = [] := rfl
@[simp] theorem State.resetWith_reportOut (c : Config) (b : BootInputs) : (State.resetWith c b).reportOut = [] := rfl
@[simp] theorem State.resetWith_pwmOut (c : Config) (b : BootInputs) : (State.resetWith c b).pwmOut = [] := rfl
@[simp] theorem State.resetWith_cfg (c : Config) (b : BootInputs) : (State.resetWith c b).cfg = c := rfl
@[simp] theorem State.resetWith_rxIn (c : Config) (b : BootInputs) : (State.resetWith c b).rxIn = [] := rfl
@[simp] theorem State.resetWith_thermal (c : Config) (b : BootInputs) : (State.resetWith c b).thermal = .none := rfl
@[simp] theorem State.resetWith_bootIn (c : Config) (b : BootInputs) : (State.resetWith c b).bootIn = b := rfl
@[simp] theorem State.resetWith_turns (c : Config) (b : BootInputs) : (State.resetWith c b).turns = [] := rfl

end Sys2Proof.Machine
end

