-- ==== Sys2Proof/Laws/Ops.lean ====
section
/-! SUPPORT. What each shared operation does, said once: the channel write and what is built from it (43_actuator.md R180 to
R185), the enable loop (70_reset_and_hazards.md R263), the send (42_transmit.md R160) and `fatal` (R267). -/

namespace Sys2Proof.Machine

/-! ## Actuator registers -/

@[simp] theorem Actuator.setLevel_en (a : Actuator) (ch : Channel) (v : Byte) : (a.setLevel ch v).en = a.en := by
  cases ch <;> rfl

@[simp] theorem Actuator.level_setLevel_same (a : Actuator) (ch : Channel) (v : Byte) : (a.setLevel ch v).level ch = v := by
  cases ch <;> rfl

@[simp] theorem Actuator.setLevel_level (a : Actuator) (ch : Channel) : a.setLevel ch (a.level ch) = a := by
  cases ch <;> rfl

theorem Actuator.level_setLevel_of_ne (a : Actuator) {ch c : Channel} (v : Byte) (h : c ≠ ch) :
    (a.setLevel ch v).level c = a.level c := by
  cases ch <;> cases c <;> first | rfl | exact absurd rfl h

@[simp] theorem Actuator.setEn_en (a : Actuator) (e : Bool) : (a.setEn e).en = e := rfl

@[simp] theorem Actuator.setEn_level (a : Actuator) (e : Bool) (ch : Channel) : (a.setEn e).level ch = a.level ch := by
  cases ch <;> rfl

@[simp] theorem Actuator.level_hi (a : Actuator) : a.level .hi = a.hi := rfl

@[simp] theorem Actuator.level_lo (a : Actuator) : a.level .lo = a.lo := rfl

/-- A register after a write to a channel of it, with the gate (R180). -/
def Actuator.gated (ch : Channel) (v : Byte) (a : Actuator) : Actuator := if a.en then a.setLevel ch v else a

/-- A register after both channel writes of one command (R182, R183). -/
def Actuator.gatedPair (h l : Byte) (a : Actuator) : Actuator := if a.en then { a with hi := h, lo := l } else a

theorem Actuator.gated_lo_gated_hi (a : Actuator) (h l : Byte) : (a.gated .hi h).gated .lo l = a.gatedPair h l := by
  cases he : a.en <;> simp [Actuator.gated, Actuator.gatedPair, he, Actuator.setLevel]

/-! ## The channel write -/

/-- The events a channel write makes (R180, R38). -/
def chanEvents (i : Nat) (ch : Channel) (v : Byte) (bank : List Actuator) : List PwmWrite :=
  match bank[i]? with
  | none => []
  | some a => if a.en = true ∧ a.level ch ≠ v then [⟨i, ch, v⟩] else []

/-- All a channel write does (R180): the level of an enabled actuator, and the event of a performed write. -/
theorem chanWrite_eq (i : Nat) (ch : Channel) (v : Byte) (s : State) :
    chanWrite i ch v s =
      { s with bank := s.bank.modify i (Actuator.gated ch v), pwmOut := s.pwmOut ++ chanEvents i ch v s.bank } := by
  have keep : ∀ f : Actuator → Actuator, (∀ a, s.bank[i]? = some a → f a = a) → s.bank.modify i f = s.bank := by
    intro f hf
    apply List.ext_getElem?
    intro j
    rw [List.getElem?_modify]
    by_cases hij : i = j
    · subst hij
      cases h : s.bank[i]? with
      | none => simp
      | some a => simp [hf a h]
    · simp [hij]
  unfold chanWrite chanEvents
  cases h : s.bank[i]? with
  | none =>
    have hk := keep (Actuator.gated ch v) (fun a ha => by simp [h] at ha)
    simp [hk]
  | some a =>
    by_cases he : a.en
    · by_cases hv : a.level ch = v
      · subst hv
        have hk := keep (Actuator.gated ch (a.level ch)) (fun b hb => by
          rw [h] at hb
          cases hb
          simp [Actuator.gated, he])
        simp [he, hk]
      · have hm : s.bank.modify i (Actuator.gated ch v) = s.bank.set i (a.setLevel ch v) := by
          apply List.ext_getElem?
          intro j
          rw [List.getElem?_modify, List.getElem?_set]
          by_cases hij : i = j
          · subst hij
            obtain ⟨hlt, hget⟩ := List.getElem?_eq_some_iff.mp h
            simp [hlt, hget, Actuator.gated, he]
          · simp [hij]
        simp [he, hv, hm, State.setBank, State.pwmWrite]
    · have hk := keep (Actuator.gated ch v) (fun b hb => by
        rw [h] at hb
        cases hb
        simp [Actuator.gated, he])
      simp [he, hk]

/-! ## Set and halt -/

/-- The events the two writes of one command make: high channel first (R182, D29). -/
def pairEvents (h l : Byte) (i : Nat) (bank : List Actuator) : List PwmWrite :=
  chanEvents i .hi h bank ++ chanEvents i .lo l bank

/-- The low write does not see the high write: it makes the events it would make without it. -/
theorem chanEvents_lo_modify_hi (i : Nat) (h l : Byte) (bank : List Actuator) :
    chanEvents i .lo l (bank.modify i (Actuator.gated .hi h)) = chanEvents i .lo l bank := by
  unfold chanEvents
  rw [List.getElem?_modify]
  cases hb : bank[i]? with
  | none => simp
  | some a => cases he : a.en <;> simp [Actuator.gated, he, Actuator.setLevel]

/-- Both channel writes of one command, high then low (R182, R183). -/
theorem chanWrite_pair_eq (i : Nat) (h l : Byte) (s : State) :
    chanWrite i .lo l (chanWrite i .hi h s) =
      { s with bank := s.bank.modify i (Actuator.gatedPair h l), pwmOut := s.pwmOut ++ pairEvents h l i s.bank } := by
  rw [chanWrite_eq, chanWrite_eq]
  have hm : (s.bank.modify i (Actuator.gated .hi h)).modify i (Actuator.gated .lo l)
      = s.bank.modify i (Actuator.gatedPair h l) := by
    apply List.ext_getElem?
    intro j
    simp only [List.getElem?_modify]
    by_cases hij : i = j
    · cases s.bank[j]? <;> simp [hij, Actuator.gated_lo_gated_hi]
    · simp [hij]
  simp [hm, chanEvents_lo_modify_hi, pairEvents, List.append_assoc]

/-- All `ACT_SET` does (R182). -/
theorem actSet_eq (i : Nat) (value : Half) (s : State) :
    actSet i value s =
      { s with
        bank := s.bank.modify i (Actuator.gatedPair (motion value).1 (motion value).2)
        pwmOut := s.pwmOut ++ pairEvents (motion value).1 (motion value).2 i s.bank } :=
  chanWrite_pair_eq i _ _ s

/-- Events of a later actuator do not depend on the writes to an earlier one. -/
theorem pairEvents_modify_of_ne (h l : Byte) {i j : Nat} (hij : i ≠ j) (f : Actuator → Actuator) (bank : List Actuator) :
    pairEvents h l j (bank.modify i f) = pairEvents h l j bank := by
  simp [pairEvents, chanEvents, hij]

/-- Halting the first `n` actuators in ascending order (R183). -/
theorem foldl_haltOne_eq (n : Nat) (s : State) :
    (List.range n).foldl haltOne s =
      { s with
        bank := s.bank.mapIdx fun i a => if i < n then a.gatedPair 0 0 else a
        pwmOut := s.pwmOut ++ (List.range n).flatMap fun i => pairEvents 0 0 i s.bank } := by
  induction n with
  | zero =>
    have hid : s.bank.mapIdx (fun _ a => a) = s.bank := List.ext_getElem? fun j => by simp
    simp [hid]
  | succ n ih =>
    rw [List.range_succ, List.foldl_append, ih]
    simp only [List.foldl_cons, List.foldl_nil, haltOne, chanWrite_pair_eq, List.flatMap_append, List.flatMap_cons,
      List.flatMap_nil, List.append_nil, ← List.append_assoc]
    congr 1
    · apply List.ext_getElem?
      intro j
      simp only [List.getElem?_modify, List.getElem?_mapIdx]
      cases hb : s.bank[j]? with
      | none => simp
      | some a =>
        by_cases h1 : n = j
        · subst h1
          simp
        · have : (j < n + 1) = (j < n) := by
            apply propext
            omega
          simp [h1, this]
    · congr 1
      simp only [pairEvents, chanEvents, List.getElem?_mapIdx]
      cases s.bank[n]? <;> simp

/-- All `HALT_ALL` does on a bank of `BANK_SIZE` actuators (R183). -/
theorem haltAll_eq (s : State) (h : s.bank.length = s.cfg.bankSize) :
    haltAll s =
      { s with
        bank := s.bank.map (Actuator.gatedPair 0 0)
        pwmOut := s.pwmOut ++ (List.range s.cfg.bankSize).flatMap fun i => pairEvents 0 0 i s.bank } := by
  rw [haltAll, foldl_haltOne_eq]
  congr 1
  apply List.ext_getElem?
  intro j
  simp only [List.getElem?_mapIdx, List.getElem?_map]
  cases hb : s.bank[j]? with
  | none => simp
  | some a =>
    have : j < s.cfg.bankSize := h ▸ (List.getElem?_eq_some_iff.mp hb).1
    simp [this]

/-! ## Enable and disable -/

/-- All a write of the enable bit does (R184, R185). -/
theorem setEnable_eq (e : Bool) (s : State) (i : Nat) :
    setEnable e s i = { s with bank := s.bank.modify i (·.setEn e) } := by
  unfold setEnable
  cases h : s.bank[i]? with
  | none =>
    have : s.bank.modify i (·.setEn e) = s.bank := by
      apply List.ext_getElem?
      intro j
      rw [List.getElem?_modify]
      by_cases hij : i = j
      · subst hij
        simp [h]
      · simp [hij]
    simp [this]
  | some a =>
    have : s.bank.modify i (·.setEn e) = s.bank.set i (a.setEn e) := by
      apply List.ext_getElem?
      intro j
      rw [List.getElem?_modify, List.getElem?_set]
      by_cases hij : i = j
      · subst hij
        obtain ⟨hlt, hget⟩ := List.getElem?_eq_some_iff.mp h
        simp [hlt, hget]
      · simp [hij]
    simp [this, State.setBank]

/-- Enabling the first `n` actuators (R263). -/
theorem foldl_setEnable_eq (e : Bool) (n : Nat) (s : State) :
    (List.range n).foldl (setEnable e) s = { s with bank := s.bank.mapIdx fun i a => if i < n then a.setEn e else a } := by
  induction n with
  | zero =>
    have hid : s.bank.mapIdx (fun _ a => a) = s.bank := List.ext_getElem? fun j => by simp
    simp [hid]
  | succ n ih =>
    rw [List.range_succ, List.foldl_append, ih]
    simp only [List.foldl_cons, List.foldl_nil, setEnable_eq]
    congr 1
    apply List.ext_getElem?
    intro j
    simp only [List.getElem?_modify, List.getElem?_mapIdx]
    cases hb : s.bank[j]? with
    | none => simp
    | some a =>
      by_cases h1 : n = j
      · subst h1
        simp
      · have : (j < n + 1) = (j < n) := by
          apply propext
          omega
        simp [h1, this]

/-- All the enable loop of boot does on a bank of `BANK_SIZE` actuators (R263). -/
theorem enableAll_eq (s : State) (h : s.bank.length = s.cfg.bankSize) :
    enableAll s = { s with bank := s.bank.map (·.setEn true) } := by
  rw [enableAll, foldl_setEnable_eq]
  congr 1
  apply List.ext_getElem?
  intro j
  simp only [List.getElem?_mapIdx, List.getElem?_map]
  cases hb : s.bank[j]? with
  | none => simp
  | some a =>
    have : j < s.cfg.bankSize := h ▸ (List.getElem?_eq_some_iff.mp hb).1
    simp [this]

/-! ## Sends and fatal events -/

/-- The packed firmware version is `FW_MAJOR * 16 + FW_MINOR` (R30, R100). -/
theorem fwVersion_eq (c : Config) : fwVersion c = BitVec.ofNat 8 (c.fwMajor.toNat * 16 + c.fwMinor.toNat) := by
  have key : ∀ a b : Fin (2 ^ 4), ((BitVec.ofFin a).setWidth 8 <<< 4 ||| (BitVec.ofFin b).setWidth 8 : Byte)
      = BitVec.ofNat 8 (a.val * 16 + b.val) := by decide +kernel
  exact key c.fwMajor.toFin c.fwMinor.toFin

/-- All a send does (R160): the frame stands in `TXBUF` and its 16 bytes on the wire. -/
theorem send_eq (t : Byte) (d : Half) (p : List Byte) (s : State) :
    send t d p s =
      { s with
        txBuf := build s.cfg.protoVersion t d p
        txOut := s.txOut ++ Frame.bytes (build s.cfg.protoVersion t d p) } := rfl

/-- All an announcement does (R161): one broadcast frame of the address, the packed version and the thermal status. -/
theorem announce_eq (s : State) :
    announce s =
      let F := build s.cfg.protoVersion 0x10#8 broadcast
        [lo8 s.nodeAddr, hi8 s.nodeAddr, BitVec.ofNat 8 (s.cfg.fwMajor.toNat * 16 + s.cfg.fwMinor.toNat), s.thermal.code]
      { s with txBuf := F, txOut := s.txOut ++ Frame.bytes F } := by
  rw [announce, fwVersion_eq]
  rfl

/-- All `fatal` does (R267). -/
theorem State.fatal_eq (s : State) (e : Report) :
    s.fatal e = { s with reportOut := s.reportOut ++ [e], phase := .failed } := rfl

end Sys2Proof.Machine
end

