-- ==== Sys2Proof/Laws/PerInstr.lean ====
section
/-! SUPPORT. Statements about every command as syntax, one lemma per constructor of `Instr`. -/

namespace Sys2Proof.Laws

/-- The shape of an encoded command (30_encoding.md R91, R98, R106): the magic, the version, the payload type of its row, and
zeros in every payload byte it is not read from. -/
def EncodeShape.Statement (i : Instr) : Prop :=
  ∀ ver : Byte, (encode ver i)[0] = magic0 ∧ (encode ver i)[1] = magic1 ∧ (encode ver i)[4] = ver
    ∧ (encode ver i)[5] = i.typeCode
    ∧ ∀ k : Fin 16, 6 ≤ k.val → k.val ≤ 13 → k ∉ i.operandBytes → (encode ver i)[k] = 0

/-- A padding byte of an encoded command is zero, where the payload has ended before it (R106). -/
theorem encode_padding (ver : Byte) (i : Instr) (n : Nat) (hn : i.payload.length = n) (k : Fin 16) (h : 6 + n ≤ k.val)
    (hk : k.val ≤ 13) : (encode ver i)[k] = 0 := by
  obtain ⟨j, hj⟩ : ∃ j, k.val = 6 + j := ⟨k.val - 6, by omega⟩
  have h8 : j < 8 := by omega
  have hb : (encode ver i)[k] = (encode ver i)[6 + j] := by
    show (encode ver i)[k.val] = _
    simp only [hj]
  rw [hb, encode, build_payload _ _ _ _ j h8, List.getD_eq_default _ _ (by omega)]

/-- The shape of a command whose payload of `n` bytes fills the slot's beginning. -/
theorem encodeShape_of_length (i : Instr) (n : Nat) (hn : i.payload.length = n)
    (hops : ∀ k : Fin 16, 6 ≤ k.val → k.val < 6 + n → k ∈ i.operandBytes) : EncodeShape.Statement i := by
  refine fun ver => ⟨rfl, rfl, rfl, rfl, fun k h6 h13 hk => encode_padding ver i n hn k ?_ h13⟩
  by_contra hlt
  exact hk (hops k h6 (by omega))

theorem EncodeShape.devinfo (dest address : Half) (version status : Byte) :
    EncodeShape.Statement (.devinfo dest address version status) :=
  encodeShape_of_length _ 4 rfl (show ∀ k : Fin 16, 6 ≤ k.val → k.val < 6 + 4 → k ∈ ([0, 1, 2, 3, 5, 6, 7, 8, 9] : List (Fin 16)) by decide)

theorem EncodeShape.halt (dest : Half) : EncodeShape.Statement (.halt dest) :=
  encodeShape_of_length _ 3 rfl (show ∀ k : Fin 16, 6 ≤ k.val → k.val < 6 + 3 → k ∈ ([0, 1, 2, 3, 5, 6, 7, 8] : List (Fin 16)) by decide)

theorem EncodeShape.solenoid (dest : Half) (id : Byte) (value : Half) : EncodeShape.Statement (.solenoid dest id value) :=
  encodeShape_of_length _ 3 rfl (show ∀ k : Fin 16, 6 ≤ k.val → k.val < 6 + 3 → k ∈ ([0, 1, 2, 3, 5, 6, 7, 8] : List (Fin 16)) by decide)

theorem EncodeShape.temp (dest value : Half) : EncodeShape.Statement (.temp dest value) :=
  encodeShape_of_length _ 2 rfl (show ∀ k : Fin 16, 6 ≤ k.val → k.val < 6 + 2 → k ∈ ([0, 1, 2, 3, 5, 6, 7] : List (Fin 16)) by decide)

theorem EncodeShape.accel (dest x y z : Half) : EncodeShape.Statement (.accel dest x y z) :=
  encodeShape_of_length _ 6 rfl
    (show ∀ k : Fin 16, 6 ≤ k.val → k.val < 6 + 6 → k ∈ ([0, 1, 2, 3, 5, 6, 7, 8, 9, 10, 11] : List (Fin 16)) by decide)

theorem EncodeShape.angvel (dest x y z : Half) : EncodeShape.Statement (.angvel dest x y z) :=
  encodeShape_of_length _ 6 rfl
    (show ∀ k : Fin 16, 6 ≤ k.val → k.val < 6 + 6 → k ∈ ([0, 1, 2, 3, 5, 6, 7, 8, 9, 10, 11] : List (Fin 16)) by decide)

theorem EncodeShape.direction (dest x y z : Half) : EncodeShape.Statement (.direction dest x y z) :=
  encodeShape_of_length _ 6 rfl
    (show ∀ k : Fin 16, 6 ≤ k.val → k.val < 6 + 6 → k ∈ ([0, 1, 2, 3, 5, 6, 7, 8, 9, 10, 11] : List (Fin 16)) by decide)

end Sys2Proof.Laws
end

