-- ==== Sys2Proof/Laws/Step.lean ====
section
/-! SUPPORT. What a step can be, turn by turn (00_scope.md R9), the shapes of the RX step (41_receive.md R140 to R145), and runs of
several steps. -/

namespace Sys2Proof.Machine

/-! ## Turns -/

theorem step_eq_takeTurn (s : State) : step s = takeTurn s.nextTurn (s.setTurns s.turns.tail) := rfl

/-- Past the end of the schedule BOOT moves while it has a step, then RX. -/
theorem nextTurn_nil (s : State) (h : s.turns = []) :
    s.nextTurn = match s.phase with
      | .boot _ => .boot
      | _ => .rx := by
  cases hp : s.phase <;> simp [State.nextTurn, h, hp]

theorem nextTurn_cons (s : State) (t : Turn) (ts : List Turn) (h : s.turns = t :: ts) : s.nextTurn = t := by
  simp [State.nextTurn, h]

/-- In the steady state and past the end of the schedule, RX moves. -/
theorem nextTurn_run (s : State) (h : s.turns = []) (hp : s.phase = .run) : s.nextTurn = .rx := by
  rw [nextTurn_nil s h, hp]

/-- A turn of a node that has not failed is taken as `liveTurn` says. -/
theorem takeTurn_live (t : Turn) (s : State) (h : s.phase ≠ .failed) : takeTurn t s = liveTurn t s := by
  unfold takeTurn
  split
  · exact absurd ‹_› h
  · exact absurd ‹_› h
  · rfl

/-- A reset is taken in every phase. -/
theorem takeTurn_reset (b : BootInputs) (s : State) : takeTurn (.reset b) s = .next (nodeReset b s) := by
  cases h : s.phase <;> simp [takeTurn, h, liveTurn]

/-- Any other turn of a failed node faults (R267). -/
theorem takeTurn_failed (t : Turn) (s : State) (h : s.phase = .failed) (ht : ∀ b, t ≠ .reset b) :
    takeTurn t s = .fault .startupFailed := by
  cases t <;> simp [takeTurn, h]
  exact absurd rfl (ht _)

/-- Everything a step that goes on can be: a node reset, or the turn of a node that has not failed. -/
theorem step_next_cases {s t : State} (h : step s = .next t) :
    (∃ b, s.nextTurn = .reset b ∧ t = nodeReset b (s.setTurns s.turns.tail)) ∨
    (s.phase ≠ .failed ∧ liveTurn s.nextTurn (s.setTurns s.turns.tail) = .next t) := by
  rw [step_eq_takeTurn] at h
  by_cases hr : ∃ b, s.nextTurn = .reset b
  · obtain ⟨b, hb⟩ := hr
    rw [hb, takeTurn_reset] at h
    cases h
    exact .inl ⟨b, hb, rfl⟩
  · by_cases hp : s.phase = .failed
    · rw [takeTurn_failed _ _ (by simpa using hp) (fun b hb => hr ⟨b, hb⟩)] at h
      cases h
    · rw [takeTurn_live _ _ (by simpa using hp)] at h
      exact .inr ⟨hp, h⟩

/-! ## The BOOT step -/

/-- A BOOT turn in `BOOT(k)` runs the boot step of that name (R261). -/
theorem step_boot (s : State) (k : Fin 5) (ht : s.nextTurn = .boot) (hp : s.phase = .boot k) :
    step s = .next (bootStep k (s.setTurns s.turns.tail)) := by
  rw [step_eq_takeTurn, ht, takeTurn_live _ _ (by simp [hp])]
  simp [liveTurn, bootAgent, hp]

/-- The BOOT agent always goes on: a boot step, or its turn passes (R261). -/
theorem bootAgent_cases {s t : State} (h : bootAgent s = .next t) :
    (∃ k, s.phase = .boot k ∧ t = bootStep k s) ∨ ((∀ k, s.phase ≠ .boot k) ∧ t = s) := by
  unfold bootAgent at h
  split at h <;> cases h
  · exact .inl ⟨_, ‹_›, rfl⟩
  · exact .inr ⟨‹_›, rfl⟩

/-- Everything a boot step can do: it leaves the levels, the write events, the receive side, the configuration and the
inputs alone (R262 to R267). -/
theorem bootStep_frame (k : Fin 5) (s : State) : ∃ addr bank sched phase F out reports,
    bootStep k s = { s with
      nodeAddr := addr, bank := bank, sched := sched, phase := phase, txBuf := F
      txOut := s.txOut ++ out, reportOut := s.reportOut ++ reports }
    ∧ bank.map (fun a => (a.hi, a.lo)) = s.bank.map (fun a => (a.hi, a.lo)) := by
  match k with
  | 0 => simp [bootStep, boot0, State.setNodeAddr, State.setPhase]
  | 1 =>
    have hb : boot1 s = { s with
        bank := s.bank.mapIdx fun i a => if i < s.cfg.bankSize then a.setEn true else a
        phase := .boot 2 } := by
      rw [boot1, enableAll, foldl_setEnable_eq]
      rfl
    refine ⟨s.nodeAddr, _, s.sched, .boot 2, s.txBuf, [], [], by simpa [bootStep] using hb, ?_⟩
    apply List.ext_getElem?
    intro j
    simp only [List.getElem?_map, List.getElem?_mapIdx]
    cases s.bank[j]? with
    | none => rfl
    | some a => by_cases h : j < s.cfg.bankSize <;> simp [h, Actuator.setEn]
  | 2 => cases h : s.bootIn.channelInitOk <;> simp [bootStep, boot2, h, State.fatal_eq, State.setPhase]
  | 3 => cases h : s.bootIn.timerArmOk <;> simp [bootStep, boot3, h, State.fatal_eq, State.setSched, State.setPhase]
  | 4 => simp [bootStep, boot4, announce_eq, State.setPhase]

/-! ## The commands -/

/-- Everything a command can do: one report that is not fatal, the halt, or the set of an actuator in the bank (R200). -/
theorem exec_cases (i : Instr) (s : State) :
    (∃ e, exec i s = .next (s.report e) ∧ e.cls ≠ .fatal ∧ 5 ≤ e.code.toNat) ∨
    exec i s = .next (haltAll s) ∨
    (∃ (id : Byte) (v : Half), id.toNat < s.cfg.bankSize ∧ exec i s = .next (actSet id.toNat v s)) := by
  cases i with
  | solenoid d id v =>
    by_cases h : id.toNat < s.cfg.bankSize
    · exact .inr (.inr ⟨id, v, h, if_pos h⟩)
    · exact .inl ⟨.actIdRange id, if_neg h, by simp [Report.cls], by simp [Report.code]⟩
  | halt d => exact .inr (.inl rfl)
  | _ => exact .inl ⟨_, rfl, by simp [Report.cls], by simp [Report.code]⟩

/-! ## The RX step -/

/-- The RX agent with a byte to read (R140). -/
theorem rxAgent_cons (s : State) (b : Byte) (rest : List Byte) (hp : s.phase = .run) (hi : s.rxIn = b :: rest) :
    rxAgent s = rxByte b (s.setRxIn rest) := by
  simp [rxAgent, hp, hi]

/-- The RX agent without one waits (R66). -/
theorem rxAgent_nil (s : State) (hi : s.rxIn = []) : rxAgent s = .next s := by
  cases h : s.phase <;> simp [rxAgent, h, hi]

/-- The RX agent outside the steady state has no step (R140). -/
theorem rxAgent_of_ne_run (s : State) (hp : s.phase ≠ .run) : rxAgent s = .next s := by
  cases h : s.phase <;> simp [rxAgent, h] at *

/-- A step that is an RX turn with a byte to read is the byte step (R140). -/
theorem step_rx (s : State) (b : Byte) (rest : List Byte) (hp : s.phase = .run) (ht : s.nextTurn = .rx)
    (hi : s.rxIn = b :: rest) : step s = rxByte b ((s.setTurns s.turns.tail).setRxIn rest) := by
  rw [step_eq_takeTurn, ht, takeTurn_live _ _ (by simp [hp])]
  exact rxAgent_cons _ b rest hp hi

theorem rxByte_scan (b : Byte) (s : State) (h : s.rxState = .scan) : rxByte b s = .next (scanByte b s) := by
  simp [rxByte, h]

theorem rxByte_collect (b : Byte) (s : State) (h : s.rxState = .collect) (hn : s.rxCount ≠ 15) :
    rxByte b s = .next (collectByte b s) := by
  simp [rxByte, h, hn]

theorem rxByte_last (b : Byte) (s : State) (h : s.rxState = .collect) (hn : s.rxCount = 15) :
    rxByte b s = lastByte b s := by
  simp [rxByte, h, hn]

/-- A candidate is rejected with a report, or it is valid and accepted (R143). -/
theorem rejection_none_iff (ver : Byte) (a : Half) (B : Frame) :
    rejection ver a B = none ↔ validate ver B = .ok B ∧ accepts a (Frame.dest B) = true := by
  unfold rejection
  rcases validate_cases ver B with ⟨h, _⟩ | ⟨h, _⟩ | ⟨h, _⟩ | ⟨h, _⟩ <;> simp [h]

/-- The filter as the rule writes it (R144). -/
theorem accepts_iff (a d : Half) : accepts a d = true ↔ d = broadcast ∨ d = a := by
  simp [accepts]

/-- `dispatch` runs the decoded command, or reports the type (R200, R209). -/
theorem dispatch_cases (F : Frame) (s : State) :
    (∃ i, decode F = .ok i ∧ dispatch F s = exec i s) ∨
    (∃ r, decode F = .error r ∧ dispatch F s = .next (s.report (.unknownType (Frame.ptype F)))) := by
  cases h : decode F with
  | ok i => exact .inl ⟨i, rfl, by simp [dispatch, h]⟩
  | error r => exact .inr ⟨r, rfl, by simp [dispatch, h]⟩

/-- What a completed candidate leads to: one report, or dispatch of an accepted frame (R143). -/
theorem finishCandidate_cases (F : Frame) (s : State) :
    (∃ e, rejection s.cfg.protoVersion s.nodeAddr F = some e ∧ finishCandidate F s = .next (s.report e)) ∨
    (rejection s.cfg.protoVersion s.nodeAddr F = none ∧ finishCandidate F s = dispatch F s) := by
  cases h : rejection s.cfg.protoVersion s.nodeAddr F with
  | some e => exact .inl ⟨e, rfl, by simp [finishCandidate, h]⟩
  | none => exact .inr ⟨rfl, by simp [finishCandidate, h]⟩

/-! ## Runs -/

/-- A run of `m + n` steps is a run of `m` and then, if it goes on, of `n`. -/
theorem run_add (M : Host.Core) (m n : Nat) (s : M.State) :
    M.run (m + n) s = match M.run m s with
      | .next t => M.run n t
      | .fault r => .fault r
      | .refused r => .refused r := by
  induction m generalizing s with
  | zero => simp [Host.Core.run]
  | succ m ih =>
    rw [Nat.succ_add]
    simp only [Host.Core.run]
    cases M.step s with
    | next t => exact ih t
    | fault r => rfl
    | refused r => rfl

/-- A first step that goes on, taken out of a run. -/
theorem run_succ_of_next (s t : State) (n : Nat) (h : step s = .next t) :
    Host.Core.run core (n + 1) s = Host.Core.run core n t := by
  have hs : core.step s = .next t := h
  simp only [Host.Core.run, hs]

end Sys2Proof.Machine
end

