-- ==== Sys2Proof/Tests/Slice0.lean ====
section
/-! SUPPORT. Tests: the vectors of spec/95_test_vectors.md, each evaluated there from the spec's rules and not from this model,
and for every statement with hypotheses a witness that meets all of them together. -/

namespace Sys2Proof.Tests

open Sys2Proof Sys2Proof.Machine

/-! ## Helpers -/

/-- The next state of an outcome. -/
def nextOf {σ φ ρ : Type} : Host.Outcome σ φ ρ → Option σ
  | .next s => some s
  | .fault _ => none
  | .refused _ => none

/-- The state an outcome leads to, or `s` where it stops. -/
def orElse (o : Host.Outcome State Fault Refusal) (s : State) : State := (nextOf o).getD s

theorem eq_next_orElse {o : Host.Outcome State Fault Refusal} (s : State) (h : (nextOf o).isSome = true) :
    o = .next (orElse o s) := by
  cases o with
  | next t => rfl
  | fault r => cases h
  | refused r => cases h

/-- The next turn is a reset of the node. -/
def resets (s : State) : Bool :=
  match s.nextTurn with
  | .reset _ => true
  | _ => false

theorem ne_reset {s : State} (h : resets s = false) (b : BootInputs) : s.nextTurn ≠ .reset b := by
  intro hb
  simp [resets, hb] at h

/-- Configuration T0 (95_test_vectors.md section 1); the default address is program P6c's. -/
def t0 : Config where
  protoVersion := 1
  fwMajor := 1
  fwMinor := 2
  defaultAddr := 0x0042
  bankSize := 6
  announceIntervalMs := 1

/-- The boot-time inputs of T0. -/
def t0Inputs : BootInputs where
  storedAddr := some 0x0010
  channelInitOk := true
  timerArmOk := true

/-- T0 right after reset. -/
def fresh : State := State.resetWith t0 t0Inputs

/-- V20, the boot announcement A0. -/
def a0 : Frame := #v[0xC5, 0x34, 0xFF, 0xFF, 0x01, 0x10, 0x10, 0x00, 0x12, 0x00, 0x00, 0x00, 0x00, 0x00, 0xF2, 0x71]

/-- T0 after boot (95_test_vectors.md section 1). -/
def running : State :=
  { fresh with nodeAddr := 0x0010, bank := List.replicate 6 ⟨true, 0, 0⟩, sched := .armed, phase := .run, txBuf := a0, txOut := a0.toList }

/-- `s` with the first fifteen bytes of a candidate taken and the sixteenth unread. -/
def lastByteOf (F : Frame) (s : State) : State := { s with rxState := .collect, rxCount := 15, rxBuf := F, rxIn := [F[15]] }

/-- After boot, the step that takes the last byte of a frame. -/
def received (F : Frame) : State := orElse (step (lastByteOf F running)) running

/-- V21. -/
def v21 : Frame := #v[0xC5, 0x34, 0xFF, 0xFF, 0x01, 0x11, 0xFF, 0x00, 0x00, 0x00, 0x00, 0x00, 0x00, 0x00, 0xEE, 0xA2]
/-- V22. -/
def v22 : Frame := #v[0xC5, 0x34, 0x10, 0x00, 0x01, 0x11, 0x00, 0xF4, 0x01, 0x00, 0x00, 0x00, 0x00, 0x00, 0x5F, 0x9D]
/-- V23. -/
def v23 : Frame := #v[0xC5, 0x34, 0xFF, 0xFF, 0x01, 0x12, 0x23, 0x01, 0x00, 0x00, 0x00, 0x00, 0x00, 0x00, 0x99, 0x10]
/-- V24. -/
def v24 : Frame := #v[0xC5, 0x34, 0xFF, 0xFF, 0x01, 0x13, 0x01, 0x00, 0xFE, 0xFF, 0xE8, 0x03, 0x00, 0x00, 0xDC, 0xA4]
/-- V25. -/
def v25 : Frame := #v[0xC5, 0x34, 0x10, 0x00, 0x01, 0x14, 0x00, 0x00, 0x00, 0x00, 0x00, 0x00, 0x00, 0x00, 0x6D, 0x41]
/-- V26. -/
def v26 : Frame := #v[0xC5, 0x34, 0x10, 0x00, 0x01, 0x15, 0xFF, 0xFF, 0xFF, 0xFF, 0xFF, 0xFF, 0x00, 0x00, 0xA0, 0x11]
/-- V33: another version, its own checksum right. -/
def v33 : Frame := #v[0xC5, 0x34, 0x10, 0x00, 0x02, 0x11, 0x00, 0xF4, 0x01, 0x00, 0x00, 0x00, 0x00, 0x00, 0x90, 0x2C]
/-- V30: a flipped bit. -/
def v30 : Frame := #v[0xC5, 0x34, 0x10, 0x00, 0x01, 0x11, 0x00, 0xF5, 0x01, 0x00, 0x00, 0x00, 0x00, 0x00, 0x5F, 0x9D]
/-- V34: a false synchronization. -/
def v34 : Frame := #v[0xC5, 0x00, 0x00, 0xC5, 0x34, 0xFF, 0xFF, 0x01, 0x11, 0xFF, 0x00, 0x00, 0x00, 0x00, 0x00, 0x00]
/-- V46's first frame: another node's. -/
def v46 : Frame := #v[0xC5, 0x34, 0x11, 0x00, 0x01, 0x11, 0x00, 0xF4, 0x01, 0x00, 0x00, 0x00, 0x00, 0x00, 0x5F, 0x9D]
/-- V64: an id equal to the bank size. -/
def v64 : Frame := #v[0xC5, 0x34, 0x10, 0x00, 0x01, 0x11, 0x06, 0x0A, 0x00, 0x00, 0x00, 0x00, 0x00, 0x00, 0x24, 0x45]
/-- V65: the halt id with another value. -/
def v65 : Frame := #v[0xC5, 0x34, 0x10, 0x00, 0x01, 0x11, 0xFF, 0x01, 0x00, 0x00, 0x00, 0x00, 0x00, 0x00, 0x8F, 0x1A]
/-- V70. -/
def v70 : Frame := #v[0xC5, 0x34, 0xFF, 0xFF, 0x01, 0x10, 0x22, 0x00, 0x2F, 0x02, 0x00, 0x00, 0x00, 0x00, 0xC4, 0x9D]
/-- V76: the first unknown type above the six. -/
def v76 : Frame := #v[0xC5, 0x34, 0x10, 0x00, 0x01, 0x16, 0x00, 0x00, 0x00, 0x00, 0x00, 0x00, 0x00, 0x00, 0x0A, 0x87]

/-! ## WellFormed (30_encoding.md R103, R112) -/

theorem test_wellFormed_refuses_the_halt_spelling : (Instr.solenoid 0x0010 0xFF 0).wellFormed = false := by decide
theorem test_wellFormed_takes_every_other_solenoid :
    (Instr.solenoid 0x0010 0xFF 1).wellFormed = true ∧ (Instr.solenoid 0x0010 0xFE 0).wellFormed = true := by decide
theorem test_wellFormed_says_the_same_as_the_check :
    ¬ (Instr.solenoid 0x0010 0xFF 0).WellFormed ∧ (Instr.solenoid 0x0010 0xFF 1).WellFormed := by decide

/-! ## Decoding (V20 to V28, V37, V38, V76) -/

theorem test_decode_devinfo : decode a0 = .ok (.devinfo 0xFFFF 0x0010 0x12 0) := by rfl
theorem test_decode_halt : decode v21 = .ok (.halt 0xFFFF) := by rfl
theorem test_decode_halt_with_padding :
    decode #v[0xC5, 0x34, 0x10, 0x00, 0x01, 0x11, 0xFF, 0x00, 0x00, 0xDE, 0xAD, 0xBE, 0xEF, 0x01, 0x07, 0x7C]
      = .ok (.halt 0x0010) := by rfl
theorem test_decode_solenoid : decode v22 = .ok (.solenoid 0x0010 0 500) := by rfl
theorem test_decode_solenoid_with_padding :
    decode #v[0xC5, 0x34, 0x10, 0x00, 0x01, 0x11, 0x03, 0x07, 0x00, 0xAA, 0xBB, 0xCC, 0xDD, 0xEE, 0x99, 0x48]
      = .ok (.solenoid 0x0010 3 7) := by rfl
theorem test_decode_temp : decode v23 = .ok (.temp 0xFFFF 291) := by rfl
theorem test_decode_accel : decode v24 = .ok (.accel 0xFFFF 1 (u16 (-2)) 1000) := by rfl
theorem test_decode_angvel : decode v25 = .ok (.angvel 0x0010 0 0 0) := by rfl
theorem test_decode_direction : decode v26 = .ok (.direction 0x0010 (u16 (-1)) (u16 (-1)) (u16 (-1))) := by rfl
theorem test_decode_unknown : decode v76 = .error (.unknownType 0x16) := by rfl
theorem test_decode_no_magic : decode v34 = .error .noMagic := by rfl
theorem test_decode_wrong_length : decodeBytes [0xC5, 0x34] = .error .notAFrame := by rfl
/-- V24 through the encoder. -/
theorem test_encode_accel : encode 1 (.accel 0xFFFF 1 (u16 (-2)) 1000) = v24 := by decide

/-- The rows of spec/opcode_table.json as numbers, byte 0 lowest. -/
theorem test_table_rows :
    decodeTableWord 128 0x1000000034C5 = some (.devinfo 0 0 0 0) ∧
    decodeTableWord 128 0x1000000035C5 = none ∧
    decodeTableWord 128 0x1600000034C5 = none ∧
    decodeTableWord 128 0xFF1100000034C5 = some (.halt 0) ∧
    decodeTableWord 128 0x1100000034C5 = some (.solenoid 0 0 0) ∧
    decodeTableWord 128 0x1200000034C5 = some (.temp 0 0) ∧
    decodeTableWord 128 0x1300000034C5 = some (.accel 0 0 0 0) ∧
    decodeTableWord 128 0x1400000034C5 = some (.angvel 0 0 0 0) ∧
    decodeTableWord 128 0x1500000034C5 = some (.direction 0 0 0 0) := by decide

/-! ## The checksum and validate (V1 to V9, V30 to V36) -/

theorem test_checksum_v3 : checksum [0x01, 0x11, 0xFF, 0, 0, 0, 0, 0, 0, 0] = 0xA2EE := by decide
theorem test_checksum_v5 : checksum [0x01] = 0xF1D1 := by decide
theorem test_checksum_v8 : checksum [0x31, 0x32, 0x33, 0x34, 0x35, 0x36, 0x37, 0x38, 0x39] = 0x29B1 := by decide
theorem test_validate_bad_checksum : validate 1 v30 = .error .badChecksum := by rfl
theorem test_validate_bad_magic : validate 1 v34 = .error .badMagic := by rfl

/-! ## One step of each command (V50, V60, V63 to V65, V70 to V76) -/

theorem test_exec_devinfo : (received v70).reportOut = [.peerInfo 0x0022 0x2F 2] := by decide
theorem test_exec_solenoid :
    (received v22).pwmOut = [⟨0, .hi, 255⟩] ∧ (received v22).bank[0]? = some ⟨true, 255, 0⟩ := by decide
/-- V60, a reversal. -/
theorem test_exec_solenoid_reversal :
    (orElse (exec (.solenoid 0x0010 0 (u16 (-50))) { running with bank := ⟨true, 200, 0⟩ :: running.bank.tail }) running).pwmOut
      = [⟨0, .hi, 0⟩, ⟨0, .lo, 50⟩] := by decide
/-- V63 and program P4: a halt leaves a disabled actuator as it is. -/
def driven : State :=
  { running with bank := [⟨true, 255, 0⟩, ⟨true, 0, 0⟩, ⟨false, 100, 0⟩, ⟨true, 0, 77⟩, ⟨true, 0, 0⟩, ⟨true, 255, 0⟩] }
theorem test_exec_halt_writes :
    (orElse (step (lastByteOf v21 driven)) driven).pwmOut = [⟨0, .hi, 0⟩, ⟨3, .lo, 0⟩, ⟨5, .hi, 0⟩] := by decide
theorem test_exec_halt_bank :
    (orElse (step (lastByteOf v21 driven)) driven).bank
      = [⟨true, 0, 0⟩, ⟨true, 0, 0⟩, ⟨false, 100, 0⟩, ⟨true, 0, 0⟩, ⟨true, 0, 0⟩, ⟨true, 0, 0⟩] := by decide
theorem test_exec_temp : (received v23).reportOut = [.unknownType 0x12] := by decide
theorem test_exec_accel : (received v24).reportOut = [.unknownType 0x13] := by decide
theorem test_exec_angvel : (received v25).reportOut = [.unknownType 0x14] := by decide
theorem test_exec_direction : (received v26).reportOut = [.unknownType 0x15] := by decide
theorem test_unknown_type : (received v76).reportOut = [.unknownType 0x16] := by decide
theorem test_id_out_of_range :
    (received v64).reportOut = [.actIdRange 6] ∧ (received v65).reportOut = [.actIdRange 0xFF] := by decide
theorem test_rejections :
    (received v34).reportOut = [.badMagic 0x00] ∧ (received v30).reportOut = [.badChecksum 0x9D5F 0x253E] ∧
    (received v33).reportOut = [.badVersion 0x02] ∧ (received v46).reportOut = [.misaddressed 0x0011] := by decide

/-! ## Sends, boot and stops (V80 to V85, P6) -/

theorem test_boot_announces :
    (orElse (step { running with phase := .boot 4, txOut := [] }) running).txOut = a0.toList := by decide
/-- R284: a tick between `BOOT(3)` and `BOOT(4)` is followed by the unconditional announcement. -/
theorem test_boot_announces_after_a_tick :
    (orElse (step { running with phase := .boot 4, rxIn := [0xC5] }) running).txOut = a0.toList ++ a0.toList := by decide
/-- V81. -/
theorem test_tick_thermal :
    (orElse (step { running with turns := [.tick], thermal := .temperatureHigh, txOut := [] }) running).txOut
      = [0xC5, 0x34, 0xFF, 0xFF, 0x01, 0x10, 0x10, 0x00, 0x12, 0x01, 0x00, 0x00, 0x00, 0x00, 0xA3, 0xDB] := by decide
/-- R162's example. -/
theorem test_send_temp :
    (orElse (step { running with turns := [.host (.sendTemp 0x0010 (u16 (-40)))], txOut := [] }) running).txOut
      = [0xC5, 0x34, 0x10, 0x00, 0x01, 0x12, 0xD8, 0xFF, 0x00, 0x00, 0x00, 0x00, 0x00, 0x00, 0xAB, 0x96] := by decide
/-- V85. -/
theorem test_send_accel :
    (orElse (step { running with turns := [.host (.sendAccel 0xFFFF 1 (u16 (-2)) 1000)], txOut := [] }) running).txOut
      = v24.toList := by decide
/-- P6c. -/
theorem test_default_address :
    (orElse (step { fresh with bootIn := { t0Inputs with storedAddr := none } }) fresh).nodeAddr = 0x0042 := by decide
theorem test_channel_init_fails :
    (orElse (step { fresh with phase := .boot 2, bootIn := { t0Inputs with channelInitOk := false } }) fresh).reportOut
      = [.fatalChannelInit] := by decide
theorem test_failed_stops : step { fresh with phase := .failed } = .fault .startupFailed := by rfl
theorem test_host_index_refused :
    step { running with turns := [.host (.enable 6)] } = .refused (.hostIndexOutOfRange 6) := by rfl

/-! ## An instruction placed at reset runs as the first one (log entry 7) -/

theorem test_first_devinfo :
    (orElse (step (State.reset.withFetchWord 128 0x1000000034C5)) State.reset).reportOut = [.peerInfo 0 0 0] := by decide
theorem test_first_solenoid :
    (orElse (step (State.reset.withFetchWord 128 0x061100000034C5)) State.reset).reportOut = [.actIdRange 6] := by decide
theorem test_first_halt :
    (orElse (step ({ State.reset with bank := [⟨true, 9, 0⟩] }.withFetchWord 128 0xFF1100000034C5)) State.reset).pwmOut
      = [⟨0, .hi, 0⟩] := by decide

/-! ## Witnesses: a state and operands that meet all hypotheses of a statement together -/

theorem witness_EncodedCommandsDecodeToThemselves :
    (Instr.solenoid 0x0010 0 500).WellFormed ∧ (Instr.solenoid 0x0010 0xFF 1).WellFormed ∧ (Instr.halt 0xFFFF).WellFormed := by
  decide

theorem witness_DecodedCommandsReencodeTheirBytes : decode v64 = .ok (.solenoid 0x0010 6 10) := by rfl

theorem witness_UnusedBytesAreNotRead :
    decode v21 = .ok (.halt 0xFFFF) ∧ (v21.set 9 0xDE).set 15 0 ≠ v21 ∧
      ∀ k ∈ (Instr.halt 0xFFFF).operandBytes, ((v21.set 9 0xDE).set 15 0)[k] = v21[k] :=
  ⟨rfl, by decide, by decide⟩

theorem witness_TypesOutsideTheSixAreUnknown :
    v76[0] = 0xC5#8 ∧ v76[1] = 0x34#8 ∧ 0x15 < v76[5].toNat ∧
    (v76.set 5 0x0F)[0] = 0xC5#8 ∧ (v76.set 5 0x0F)[1] = 0x34#8 ∧ (v76.set 5 0x0F)[5].toNat < 0x10 := by decide

theorem witness_HaltSentinelIsThreeBytes :
    (v21[0] = 0xC5#8 ∧ v21[1] = 0x34#8 ∧ v21[5] = 0x11#8 ∧ v21[6] = 0xFF#8 ∧ v21[7] = 0 ∧ v21[8] = 0) ∧
    (v65[0] = 0xC5#8 ∧ v65[1] = 0x34#8 ∧ v65[5] = 0x11#8 ∧ ¬ (v65[6] = 0xFF#8 ∧ v65[7] = 0 ∧ v65[8] = 0)) := by decide

theorem witness_BuildWritesEveryByte : ([1, 2, 3, 4, 5, 6, 7, 8] : List Byte).length ≤ 8 ∧ ([] : List Byte).length ≤ 8 := by
  decide

theorem witness_BuiltFramesValidate : ([0xFF, 0x00, 0x00] : List Byte).length ≤ 8 := by decide

theorem witness_DamageToOneByteIsDetected :
    validate 1 v22 = .ok v22 ∧ (0xC4 : Byte) ≠ v22[(0 : Fin 16)] ∧ (0x35 : Byte) ≠ v22[(1 : Fin 16)]
      ∧ (0x02 : Byte) ≠ v22[(4 : Fin 16)] ∧ (0x9C : Byte) ≠ v22[(15 : Fin 16)] :=
  ⟨rfl, by decide, by decide, by decide, by decide⟩

theorem witness_ScanStepLooksForTheMagic :
    let s := { running with rxIn := [0xC5, 0x34] }
    let t := { running with rxIn := [0x34] }
    (s.phase = .run ∧ s.nextTurn = .rx ∧ s.rxIn = 0xC5#8 :: [0x34] ∧ s.rxState = .scan) ∧
    (t.phase = .run ∧ t.nextTurn = .rx ∧ t.rxIn = 0x34#8 :: [] ∧ t.rxState = .scan ∧ (0x34#8 : Byte) ≠ 0xC5#8) := by
  decide

theorem witness_CollectStepStoresAnyByte :
    let s := { running with rxState := .collect, rxCount := 1, rxIn := [0xC5] }
    let t := { running with rxState := .collect, rxCount := 14, rxIn := [] }
    (s.phase = .run ∧ s.nextTurn = .rx ∧ s.rxState = .collect ∧ s.rxCount = 1 ∧ (1 : Fin 16).val ≤ 14 ∧ s.rxIn = 0xC5#8 :: []) ∧
    (t.phase = .run ∧ t.nextTurn = .rx ∧ t.rxState = .collect ∧ t.rxCount = 14 ∧ (14 : Fin 16).val ≤ 14 ∧ t.rxIn = []) := by
  decide

/-- A candidate whose last byte is to be taken meets the hypotheses of `LastByteSettlesTheCandidate`. -/
def ready (F : Frame) : Prop :=
  let s := lastByteOf F running
  s.phase = .run ∧ s.nextTurn = .rx ∧ s.rxIn = F[15] :: [] ∧ s.rxState = .collect ∧ s.rxCount = 15
    ∧ s.rxBuf.set 15 F[15] = F

theorem witness_LastByteSettlesTheCandidate :
    (ready v34 ∧ v34[1] ≠ 0x34#8) ∧
    (ready v30 ∧ v30[0] = 0xC5#8 ∧ v30[1] = 0x34#8 ∧ Frame.csum v30 ≠ checksum (Frame.covered v30)) ∧
    (ready v33 ∧ Frame.csum v33 = checksum (Frame.covered v33) ∧ v33[4] ≠ running.cfg.protoVersion) ∧
    (ready v46 ∧ Frame.csum v46 = checksum (Frame.covered v46) ∧ v46[4] = running.cfg.protoVersion
      ∧ Frame.dest v46 ≠ 0xFFFF ∧ Frame.dest v46 ≠ running.nodeAddr) ∧
    (ready v22 ∧ Frame.csum v22 = checksum (Frame.covered v22) ∧ v22[4] = running.cfg.protoVersion
      ∧ Frame.dest v22 = running.nodeAddr) ∧
    (ready v21 ∧ Frame.csum v21 = checksum (Frame.covered v21) ∧ v21[4] = running.cfg.protoVersion
      ∧ Frame.dest v21 = 0xFFFF) := by
  unfold ready
  decide

theorem witness_StepRunsTheDecodedCommand :
    ready v22 ∧ validate running.cfg.protoVersion v22 = .ok v22 ∧ Frame.dest v22 = running.nodeAddr
      ∧ decode v22 = .ok (.solenoid 0x0010 0 500) :=
  ⟨by unfold ready; decide, rfl, by decide, rfl⟩

theorem witness_UnknownTypeIsReported :
    v76[0] = 0xC5#8 ∧ v76[1] = 0x34#8 ∧ (v76[5].toNat < 0x10 ∨ 0x15 < v76[5].toNat) := by decide

theorem witness_EachRxStepTakesOneByte :
    running.phase = .run ∧ running.nextTurn = .rx ∧ running.rxIn = [] ∧
    { running with rxIn := [0x00] }.nextTurn = .rx ∧ { running with rxIn := [0x00] }.rxIn = 0x00#8 :: [] := by decide

theorem witness_CandidateEndsAfterItsSixteenBytes :
    let s := { running with rxState := .collect, rxCount := 15, rxIn := [0x01, 0x02] }
    let t := { running with rxState := .collect, rxCount := 1, rxIn := List.replicate 15 0 }
    (s.phase = .run ∧ s.turns = [] ∧ s.rxState = .collect ∧ s.rxIn = [0x01] ++ [0x02]
      ∧ s.rxCount.val + ([0x01] : List Byte).length = 16) ∧
    (t.phase = .run ∧ t.turns = [] ∧ t.rxState = .collect ∧ t.rxIn = List.replicate 15 0 ++ []
      ∧ t.rxCount.val + (List.replicate 15 (0 : Byte)).length = 16) := by
  decide

/-- V44's garbage without `C5`, around a frame with padding that is not zero (V38) and a frame of an unknown type (V76). -/
theorem witness_TwoFramesInGarbageTakeEffectInOrder :
    let F : Frame := #v[0xC5, 0x34, 0x10, 0x00, 0x01, 0x11, 0xFF, 0x00, 0x00, 0xDE, 0xAD, 0xBE, 0xEF, 0x01, 0x07, 0x7C]
    let s := { running with rxIn := [0x00, 0x11, 0x22] ++ F.toList ++ [0x99, 0x88] ++ v76.toList ++ [0xC5] }
    (s.phase = .run ∧ s.turns = [] ∧ s.rxState = .scan ∧ s.rxCount = 0 ∧ 0xC5#8 ∉ [0x00#8, 0x11#8, 0x22#8]
      ∧ 0xC5#8 ∉ [0x99#8, 0x88#8] ∧ Frame.dest F = s.nodeAddr ∧ Frame.dest v76 = s.nodeAddr)
    ∧ validate s.cfg.protoVersion F = .ok F ∧ validate s.cfg.protoVersion v76 = .ok v76 :=
  ⟨by decide, rfl, rfl⟩

/-- Garbage and a rejected candidate before the frame that is found. -/
theorem witness_RxStepsRefineTheStreamFunction :
    let s := { running with rxIn := [0x7F] ++ v30.toList ++ v22.toList ++ [0x01] }
    s.phase = .run ∧ s.turns = [] ∧ s.rxState = .scan ∧ s.rxCount = 0 ∧
      receiveNextFrame s.cfg.protoVersion s.nodeAddr 5 s.rxIn [] = some (v22, [0x01], [.badChecksum 0x9D5F 0x253E]) := by
  decide

/-- A rejected candidate, then a frame cut off. -/
theorem witness_WaitingForAFrameMovesNothing :
    let s := { running with rxIn := v34.toList ++ [0xC5, 0x34] }
    s.phase = .run ∧ s.turns = [] ∧ s.rxState = .scan ∧ s.rxCount = 0 ∧
      receiveNextFrame s.cfg.protoVersion s.nodeAddr (s.rxIn.length + 1) s.rxIn [] = none := by
  decide

/-- The step that takes the last byte of V22 goes on and writes a level. -/
theorem witness_OnlyAcceptedSolenoidFramesMoveTheBank :
    let s := lastByteOf v22 running
    step s = .next (received v22) ∧ (∀ b, s.nextTurn ≠ .reset b) ∧ (received v22).pwmOut ≠ s.pwmOut :=
  ⟨eq_next_orElse running (by decide), ne_reset (by decide), by decide⟩

theorem witness_AtMostOneReportPerStep :
    let s := lastByteOf v70 running
    step s = .next (received v70) ∧ ∀ b, s.nextTurn ≠ .reset b :=
  ⟨eq_next_orElse running (by decide), ne_reset (by decide)⟩

theorem witness_DevinfoReportsThePeer : v70[0] = 0xC5#8 ∧ v70[1] = 0x34#8 ∧ v70[5] = 0x10#8 := by decide

theorem witness_TelemetryIsRejected :
    v23[0] = 0xC5#8 ∧ v23[1] = 0x34#8 ∧ v23[5] = 0x12#8 ∧ v26[0] = 0xC5#8 ∧ v26[1] = 0x34#8 ∧ v26[5] = 0x15#8 := by
  decide

theorem witness_SolenoidOutOfRangeIsRejected :
    (running.cfg.bankSize ≤ (0x06 : Byte).toNat ∧ ¬ ((0x06 : Byte) = 0xFF#8 ∧ (10 : Half) = 0)) ∧
    (running.cfg.bankSize ≤ (0xFF : Byte).toNat ∧ ¬ ((0xFF : Byte) = 0xFF#8 ∧ (1 : Half) = 0)) ∧
    (v65[0] = 0xC5#8 ∧ v65[1] = 0x34#8 ∧ v65[5] = 0x11#8 ∧ running.cfg.bankSize ≤ v65[6].toNat
      ∧ ¬ (v65[6] = 0xFF#8 ∧ v65[7] = 0 ∧ v65[8] = 0)) := by
  decide

theorem witness_SolenoidDrivesAnEnabledActuator :
    ((0x05 : Byte).toNat < driven.cfg.bankSize ∧ driven.bank[(0x05 : Byte).toNat]? = some ⟨true, 255, 0⟩) ∧
    ((0x02 : Byte).toNat < driven.cfg.bankSize ∧ driven.bank[(0x02 : Byte).toNat]? = some ⟨false, 100, 0⟩) ∧
    (v22[0] = 0xC5#8 ∧ v22[1] = 0x34#8 ∧ v22[5] = 0x11#8 ∧ v22[6].toNat < driven.cfg.bankSize
      ∧ ¬ (v22[6] = 0xFF#8 ∧ v22[7] = 0 ∧ v22[8] = 0)) := by
  decide

theorem witness_HaltZeroesEveryEnabledActuator :
    driven.bank.length = driven.cfg.bankSize ∧
      (v21[0] = 0xC5#8 ∧ v21[1] = 0x34#8 ∧ v21[5] = 0x11#8 ∧ v21[6] = 0xFF#8 ∧ v21[7] = 0 ∧ v21[8] = 0) := by
  decide

/-- R187's pair of values, 500 and 300. -/
theorem witness_RepeatedMotionWritesNothing :
    (0x00 : Byte).toNat < running.cfg.bankSize ∧ motion 500 = motion 300 ∧
      exec (.solenoid 0x0010 0 500) running = .next (orElse (exec (.solenoid 0x0010 0 500) running) running) :=
  ⟨by decide, by decide, eq_next_orElse running (by decide)⟩

theorem witness_RepeatedHaltWritesNothing :
    exec (.halt 0xFFFF) driven = .next (orElse (exec (.halt 0xFFFF) driven) driven) :=
  eq_next_orElse driven (by decide)

theorem witness_TickSendsOneAnnouncement :
    let tickIn := fun (p : Phase) (a : SchedState) => { running with turns := [.tick], phase := p, sched := a }
    (tickIn .run .armed).nextTurn = .tick ∧ (tickIn (.boot 4) .armed).phase = .boot 4 ∧ (tickIn (.boot 4) .armed).nextTurn = .tick ∧
    (tickIn (.boot 3) .idle).nextTurn = .tick ∧ (tickIn (.boot 3) .idle).phase ≠ .failed ∧ (tickIn (.boot 3) .idle).sched ≠ .armed ∧
    (tickIn .failed .idle).nextTurn = .tick ∧ (tickIn .failed .idle).phase = .failed := by
  decide

theorem witness_HostSendsOneFrame :
    let hostIn := fun (p : Phase) (op : HostOp) => { running with turns := [.host op], phase := p }
    (hostIn .run (.sendTemp 0x0020 0x8000)).nextTurn = .host (.sendTemp 0x0020 0x8000) ∧
    (hostIn .run (.sendAccel 0xFFFF 1 2 3)).nextTurn = .host (.sendAccel 0xFFFF 1 2 3) ∧
    (hostIn .run .announce).nextTurn = .host .announce ∧ (hostIn .run .announce).phase = .run ∧
    (hostIn (.boot 4) .announce).nextTurn = .host .announce ∧ (hostIn (.boot 4) .announce).phase = .boot 4 := by
  decide

theorem witness_EnableAndDisableWriteOneBit :
    let hostIn := fun (op : HostOp) => { driven with turns := [.host op] }
    ((hostIn (.enable 2)).nextTurn = .host (.enable 2) ∧ (hostIn (.enable 2)).phase = .run ∧ 2 < driven.cfg.bankSize
      ∧ driven.bank[2]? = some ⟨false, 100, 0⟩) ∧
    ((hostIn (.disable 5)).nextTurn = .host (.disable 5) ∧ 5 < driven.cfg.bankSize ∧ driven.bank[5]? = some ⟨true, 255, 0⟩) ∧
    ((hostIn (.enable 6)).nextTurn = .host (.enable 6) ∧ driven.cfg.bankSize ≤ 6) := by
  decide

theorem witness_NothingIsAcceptedDuringStartUp :
    let booting := fun (k : Fin 5) (t : Turn) => { fresh with phase := .boot k, turns := [t], rxIn := [0xC5] }
    (booting 0 .rx).phase = .boot 0 ∧ (booting 0 .rx).nextTurn = .rx ∧
    (booting 4 (.host (.enable 0))).phase = .boot 4 ∧ (booting 4 (.host (.enable 0))).nextTurn = .host (.enable 0) := by
  decide

theorem witness_DisabledActuatorKeepsItsLevels :
    (driven.bank[2]? = some ⟨false, 100, 0⟩ ∧ exec (.halt 0xFFFF) driven = .next (orElse (exec (.halt 0xFFFF) driven) driven)) ∧
    (let s := { driven with turns := [.host (.disable 5), .host (.enable 5)] }
     s.phase = .run ∧ 5 < s.cfg.bankSize ∧ s.bank[5]? = some ⟨true, 255, 0⟩
        ∧ s.turns = .host (.disable 5) :: .host (.enable 5) :: []) :=
  ⟨⟨by decide, eq_next_orElse driven (by decide)⟩, by decide⟩

theorem witness_TickAndRxStepCommute : (lastByteOf v21 driven).phase = .run := by rfl

theorem witness_AgentsWriteTheirOwnState :
    (∃ t, step (lastByteOf v21 driven) = .next t ∧ (lastByteOf v21 driven).nextTurn = .rx) ∧
    (∃ t, step { driven with turns := [.tick] } = .next t ∧ { driven with turns := [.tick] }.nextTurn = .tick) ∧
    (∃ t, step { driven with turns := [.host (.enable 2)] } = .next t
      ∧ { driven with turns := [.host (.enable 2)] }.nextTurn = .host (.enable 2)) ∧
    (∃ t, step { driven with turns := [.boot] } = .next t ∧ { driven with turns := [.boot] }.nextTurn = .boot) ∧
    (∃ t, step { fresh with phase := .boot 3 } = .next t ∧ { fresh with phase := .boot 3 }.nextTurn = .boot) :=
  ⟨⟨_, eq_next_orElse driven (by decide), by decide⟩,
   ⟨_, eq_next_orElse driven (by decide), by decide⟩,
   ⟨_, eq_next_orElse driven (by decide), by decide⟩,
   ⟨_, eq_next_orElse driven (by decide), by decide⟩,
   ⟨_, eq_next_orElse driven (by decide), by decide⟩⟩

theorem witness_ResetLeavesTheSpecifiedValues : { driven with turns := [.reset t0Inputs] }.nextTurn = .reset t0Inputs := by rfl

theorem witness_BootStepsFollowTheSequence :
    let booting := fun (k : Fin 5) (b : BootInputs) => { fresh with phase := .boot k, bootIn := b }
    ((booting 0 t0Inputs).nextTurn = .boot ∧ (booting 0 t0Inputs).bootIn.storedAddr = some 0x0010) ∧
    ((booting 0 { t0Inputs with storedAddr := none }).nextTurn = .boot) ∧
    ((booting 1 t0Inputs).nextTurn = .boot ∧ (booting 1 t0Inputs).bank.length = (booting 1 t0Inputs).cfg.bankSize) ∧
    ((booting 2 t0Inputs).nextTurn = .boot ∧ (booting 2 t0Inputs).bootIn.channelInitOk = true) ∧
    ((booting 2 { t0Inputs with channelInitOk := false }).nextTurn = .boot) ∧
    ((booting 3 t0Inputs).nextTurn = .boot ∧ (booting 3 t0Inputs).bootIn.timerArmOk = true) ∧
    ((booting 3 { t0Inputs with timerArmOk := false }).nextTurn = .boot) ∧
    ((booting 4 t0Inputs).nextTurn = .boot ∧ (booting 4 t0Inputs).phase = .boot 4) := by
  decide

theorem witness_BootTurnsPassInRun :
    { running with turns := [.boot] }.nextTurn = .boot ∧ { running with turns := [.boot] }.phase = .run := by decide

theorem witness_BootReachesTheSteadyState : t0Inputs.channelInitOk = true ∧ t0Inputs.timerArmOk = true := by decide

theorem witness_FailedNodeStops :
    { fresh with phase := .failed }.phase = .failed ∧ ∀ b, { fresh with phase := .failed }.nextTurn ≠ .reset b :=
  ⟨rfl, ne_reset (by decide)⟩

/-- The last index the bank has. -/
theorem witness_TheBlockNeverStopsInService :
    let s := { running with turns := [.host (.enable 5)] }
    s.phase ≠ .failed ∧ ∀ i, s.nextTurn = .host (.enable i) ∨ s.nextTurn = .host (.disable i) → i < s.cfg.bankSize := by
  refine ⟨by decide, ?_⟩
  rintro i (h | h) <;> cases h
  decide

theorem witness_OnlyFatalReportsAbortStartUp :
    let s := { fresh with phase := .boot 3, bootIn := { t0Inputs with timerArmOk := false } }
    step s = .next (orElse (step s) s) ∧ (∀ b, s.nextTurn ≠ .reset b) ∧ (orElse (step s) s).phase = .failed :=
  ⟨eq_next_orElse _ (by decide), ne_reset (by decide), by decide⟩

theorem witness_PhaseAndSchedulerNeverGoBack :
    let s := { fresh with phase := .boot 3 }
    (step s = .next (orElse (step s) s) ∧ (∀ b, s.nextTurn ≠ .reset b) ∧ (orElse (step s) s).sched = .armed
      ∧ s.phase = .boot 3) ∧
    (step (lastByteOf v22 running) = .next (received v22) ∧ (∀ b, (lastByteOf v22 running).nextTurn ≠ .reset b)
      ∧ (lastByteOf v22 running).phase = .run ∧ (lastByteOf v22 running).sched = .armed) :=
  ⟨⟨eq_next_orElse _ (by decide), ne_reset (by decide), by decide, rfl⟩,
   eq_next_orElse running (by decide), ne_reset (by decide), rfl, rfl⟩

theorem witness_DeliverAndThermalTurnsWriteOnlyInputs :
    let s := { fresh with turns := [.deliver [0xC5]] }
    let t := { running with turns := [.thermal .temperatureCritical] }
    s.phase ≠ .failed ∧ s.nextTurn = .deliver [0xC5] ∧ t.phase ≠ .failed ∧ t.nextTurn = .thermal .temperatureCritical := by
  decide

theorem witness_ResetMeetsTheInvariant :
    t0.Valid ∧ { t0 with bankSize := 1 }.Valid ∧ { t0 with bankSize := 255 }.Valid := by decide

/-- Actuator 0 driven to 255, one event made, the announcement sent, two bytes of a candidate collected. -/
def underway : State :=
  { running with
    bank := ⟨true, 255, 0⟩ :: List.replicate 5 ⟨true, 0, 0⟩
    pwmOut := [⟨0, .hi, 255⟩]
    rxState := .collect
    rxCount := 2
    rxBuf := v22
    rxIn := [0xFF] }

theorem witness_EveryStepKeepsTheInvariant : underway.Inv ∧ step underway = .next (orElse (step underway) underway) where
  left :=
    { bankSized := by decide
      levelsExclusive := by decide
      rxCoherent := by
        show (2 : Fin 16) ≠ 0 ∧ v22[0] = magic0
        decide
      phaseCoherent := by
        show SchedState.armed = .armed ∧ a0.toList ≠ []
        decide
      wholeFrames := ⟨[a0], by decide, fun F hF => by
        rw [List.mem_singleton.mp hF]
        exact ⟨0x10, 0xFFFF, [0x10, 0x00, 0x12, 0x00], by decide, by decide, .inl ⟨rfl, rfl⟩⟩⟩
      levelsTracked := by
        intro i a ha ch
        have key : ∀ k : Fin 6, ∀ c : Bool, (underway.bank[k.val]?).all fun b =>
            b.level (if c then .hi else .lo) == lastLevel underway.pwmOut k.val (if c then .hi else .lo) := by decide
        have hi : i < 6 := (List.getElem?_eq_some_iff.mp ha).1
        have := key ⟨i, hi⟩ (ch == .hi)
        cases ch <;> simpa [ha] using this }
  right := eq_next_orElse underway (by decide)

theorem witness_ConfigurationAndAddressAreFixed :
    step (lastByteOf v22 running) = .next (received v22) ∧ (∀ b, (lastByteOf v22 running).nextTurn ≠ .reset b)
      ∧ (lastByteOf v22 running).phase ≠ .boot 0 :=
  ⟨eq_next_orElse running (by decide), ne_reset (by decide), by decide⟩

/-- In `BOOT(0)` a turn other than BOOT's. -/
theorem witness_ConfigurationAndAddressAreFixed_in_boot0 :
    let s := { fresh with turns := [.thermal .temperatureHigh] }
    step s = .next (orElse (step s) s) ∧ (∀ b, s.nextTurn ≠ .reset b) ∧ s.phase = .boot 0 ∧ s.nextTurn ≠ .boot :=
  ⟨eq_next_orElse _ (by decide), ne_reset (by decide), rfl, by decide⟩

theorem witness_PlacedWordRunsNext : decodeTableWord 128 0xFF1100000034C5 = some (.halt 0) := by decide

end Sys2Proof.Tests
end

