-- ==== Sys2Proof/Proofs/FrameCodec.lean ====
section
/-! PROOFS. The statements of 40_framecodec.md about the frame codec: the checksum on naturals (R120), the bytes of a built
frame (R123) and the order of the tests of `validate` (R124). -/

namespace Sys2Proof
open Sys2Proof.Machine

/-! ## validate -/

/-- When `validate` returns each of its outcomes: the first test that fails decides (R124). -/
theorem validate_outcome_iffs (ver : Byte) (B : Frame) :
    (validate ver B = .error .badMagic ↔ ¬ (B[0] = magic0 ∧ B[1] = magic1)) ∧
    (validate ver B = .error .badChecksum
      ↔ (B[0] = magic0 ∧ B[1] = magic1) ∧ ¬ Frame.csum B = checksum (Frame.covered B)) ∧
    (validate ver B = .error .badVersion
      ↔ (B[0] = magic0 ∧ B[1] = magic1) ∧ Frame.csum B = checksum (Frame.covered B) ∧ B[4] ≠ ver) ∧
    (validate ver B = .ok B
      ↔ (B[0] = magic0 ∧ B[1] = magic1) ∧ Frame.csum B = checksum (Frame.covered B) ∧ B[4] = ver) := by
  rcases validate_cases ver B with ⟨hv, hm⟩ | ⟨hv, h0, h1, hs⟩ | ⟨hv, h0, h1, hs, h4⟩ | ⟨hv, h0, h1, hs, h4⟩
  · have hm : ¬ (B[0] = magic0 ∧ B[1] = magic1) := by rwa [not_and_or]
    simp [hv, hm]
  · simp [hv, h0, h1, hs]
  · simp [hv, h0, h1, hs, h4]
  · simp [hv, h0, h1, hs, h4]

/-- Settles O12: the general part is `validate_outcome_iffs`, the example is a run of `validate`. -/
theorem validateReturnsTheFirstFailure : Obligations.ValidateReturnsTheFirstFailure :=
  ⟨validate_outcome_iffs, rfl⟩

/-! ## build -/

/-- Reading `n` bytes with zero past the end is padding with zeros to length `n` (R106). -/
theorem map_getD_range (p : List Byte) (n : Nat) (h : p.length ≤ n) :
    (List.range n).map (p.getD · 0) = p ++ List.replicate (n - p.length) 0 := by
  apply List.ext_getElem
  · simp [h]
  · intro j _ _
    rcases lt_or_ge j p.length with hj | hj
    · simp [List.getElem_append_left hj, hj]
    · simp [List.getElem_append_right hj, hj]

/-- The payload field of a built frame is the payload, padded with zeros (R106, R123). -/
theorem build_payload_field (ver t : Byte) (d : Half) (p : List Byte) (h : p.length ≤ 8) :
    let F := build ver t d p
    [F[6], F[7], F[8], F[9], F[10], F[11], F[12], F[13]] = p ++ List.replicate (8 - p.length) 0 :=
  map_getD_range p 8 h

/-- The checksum field of a built frame on naturals, low byte first (R62, R123). -/
theorem build_csum_toNat (ver t : Byte) (d : Half) (p : List Byte) :
    let F := build ver t d p
    F[14].toNat + 256 * F[15].toNat = (checksum (Frame.covered F)).toNat := by
  intro F
  rw [← le16_toNat]
  exact congrArg BitVec.toNat (build_csum ver t d p)

/-- Settles O10: the fields one by one, and the example by evaluation. -/
theorem buildWritesEveryByte : Obligations.BuildWritesEveryByte := by
  refine ⟨fun ver t d p hp => ⟨rfl, rfl, lo8_toNat d, ?_, rfl, rfl, ?_, ?_⟩, by decide⟩
  · exact (hi8_toNat d).trans (by omega)
  · exact build_payload_field ver t d p hp
  · exact build_csum_toNat ver t d p

/-! ## The checksum on naturals -/

/-- The four terms R120 combines, on naturals: cutting each shifted term to 16 bits is cutting their exclusive-or. -/
theorem crcTerms_toNat (crc : Half) (tmp : Byte) :
    ((crc <<< 8) ^^^ (tmp.setWidth 16 <<< 12) ^^^ (tmp.setWidth 16 <<< 5) ^^^ tmp.setWidth 16).toNat
      = (crc.toNat <<< 8 ^^^ tmp.toNat <<< 12 ^^^ tmp.toNat <<< 5 ^^^ tmp.toNat) % 2 ^ 16 := by
  have widen : (tmp.setWidth 16).toNat = tmp.toNat := BitVec.toNat_setWidth_of_le (by decide)
  have fits : tmp.toNat % 2 ^ 16 = tmp.toNat := Nat.mod_eq_of_lt (by omega)
  simp only [BitVec.toNat_xor, BitVec.toNat_shiftLeft, widen, Nat.xor_mod_two_pow, fits]

/-- One byte of the model's loop is one byte of R120's loop on naturals: `tmp` fits in eight bits as it is. -/
theorem crcByte_toNat (crc : Half) (b : Byte) : (crcByte crc b).toNat = crcStepNat crc.toNat b.toNat := by
  have hi : (hi8 crc).toNat = crc.toNat >>> 8 := by rw [hi8_toNat, Nat.shiftRight_eq_div_pow]
  rw [crcByte, crcTerms_toNat]
  simp only [BitVec.toNat_xor, BitVec.toNat_ushiftRight, hi]
  rfl

/-- The loop on words and the loop on naturals agree from any checksum reached so far. -/
theorem foldl_crcByte_toNat (bytes : List Byte) (crc : Half) :
    (bytes.foldl crcByte crc).toNat = (bytes.map (·.toNat)).foldl crcStepNat crc.toNat := by
  induction bytes generalizing crc with
  | nil => rfl
  | cons b bs ih => rw [List.foldl_cons, ih, crcByte_toNat, List.map_cons, List.foldl_cons]

/-- Settles O9: the two loops agree from the seed on, and the corner cases are runs of `checksum`. -/
theorem checksumIsTheRulesAlgorithm : Obligations.ChecksumIsTheRulesAlgorithm :=
  ⟨fun bytes => foldl_crcByte_toNat bytes crcSeed, by decide⟩

end Sys2Proof
end

section
/-! PROOFS. The steps of the receive path (41_receive.md): the SCAN step (R141) and the last byte of a candidate (R143, R144). -/

namespace Sys2Proof.Machine

/-! ## The SCAN step -/

/-- `0xC5` starts a candidate: it is stored as byte 0 and collecting begins (R141). -/
theorem scanByte_magic0 (b : Byte) (s : State) (h : b = magic0) :
    scanByte b s = (s.setRxBuf (s.rxBuf.set 0 b)).setRxPos .collect 1 := if_pos h

/-- Any other byte is dropped while scanning (R141). -/
theorem scanByte_of_ne_magic0 (b : Byte) (s : State) (h : b ≠ magic0) : scanByte b s = s := if_neg h

/-- An RX step in SCAN is `scanByte` on the byte it takes. -/
theorem step_scan (s : State) (b : Byte) (rest : List Byte) (hp : s.phase = .run) (ht : s.nextTurn = .rx)
    (hi : s.rxIn = b :: rest) (hr : s.rxState = .scan) :
    step s = .next (scanByte b ((s.setTurns s.turns.tail).setRxIn rest)) := by
  rw [step_rx s b rest hp ht hi]
  exact rxByte_scan b _ hr

/-- Settles O14: `step_scan` with the two cases of `scanByte`. -/
theorem scanStepLooksForTheMagic : Obligations.ScanStepLooksForTheMagic := by
  intro s b rest hp ht hi hr
  rw [step_scan s b rest hp ht hi hr]
  constructor
  · intro hb
    rw [scanByte_magic0 b _ hb]
    rfl
  · intro hb
    rw [scanByte_of_ne_magic0 b _ hb]
    rfl

/-! ## The last byte of a candidate -/

/-- The state in which a candidate `F` is settled: its last byte is taken and scanning has resumed (R143). -/
def candidateTaken (F : Frame) (rest : List Byte) (s : State) : State :=
  { s with turns := s.turns.tail, rxIn := rest, rxBuf := F, rxCount := 0, rxState := .scan }

/-- The RX step that takes the sixteenth byte is `finishCandidate` on the completed buffer, with scanning resumed before the
outcome is known. -/
theorem step_lastByte (s : State) (b : Byte) (rest : List Byte) (hp : s.phase = .run) (ht : s.nextTurn = .rx)
    (hi : s.rxIn = b :: rest) (hr : s.rxState = .collect) (hn : s.rxCount = 15) :
    step s = finishCandidate (s.rxBuf.set 15 b) (candidateTaken (s.rxBuf.set 15 b) rest s) := by
  rw [step_rx s b rest hp ht hi]
  exact rxByte_last b _ hr hn

/-- A candidate with a rejection only raises that report (R143). -/
theorem finishCandidate_of_rejection {F : Frame} {s : State} {e : Report}
    (h : rejection s.cfg.protoVersion s.nodeAddr F = some e) : finishCandidate F s = .next (s.report e) := by
  simp [finishCandidate, h]

/-- A candidate without one is dispatched (R145). -/
theorem finishCandidate_of_no_rejection {F : Frame} {s : State}
    (h : rejection s.cfg.protoVersion s.nodeAddr F = none) : finishCandidate F s = dispatch F s := by
  simp [finishCandidate, h]

section
variable (ver : Byte) (a : Half) (B : Frame)

/-- Each failure of validation has its own report (R143). -/
theorem rejection_of_badMagic (h : validate ver B = .error .badMagic) : rejection ver a B = some (.badMagic B[1]) := by
  simp [rejection, h]

theorem rejection_of_badChecksum (h : validate ver B = .error .badChecksum) :
    rejection ver a B = some (.badChecksum (Frame.csum B) (checksum (Frame.covered B))) := by
  simp [rejection, h]

theorem rejection_of_badVersion (h : validate ver B = .error .badVersion) :
    rejection ver a B = some (.badVersion B[4]) := by
  simp [rejection, h]

/-- The address is tested after validation, on a valid frame only (R143, R144). -/
theorem rejection_of_misaddressed (h : validate ver B = .ok B) (hd : ¬ (Frame.dest B = broadcast ∨ Frame.dest B = a)) :
    rejection ver a B = some (.misaddressed (Frame.dest B)) := by
  rw [← accepts_iff] at hd
  simp [rejection, h, hd]

theorem rejection_of_accepted (h : validate ver B = .ok B) (hd : Frame.dest B = broadcast ∨ Frame.dest B = a) :
    rejection ver a B = none :=
  (rejection_none_iff ver a B).2 ⟨h, (accepts_iff a _).2 hd⟩

end

/-- Settles O16: the step is `finishCandidate`, and each clause of the statement is one outcome of `validate` (R124) with the
rejection that follows from it. -/
theorem lastByteSettlesTheCandidate : Obligations.LastByteSettlesTheCandidate := by
  intro s b rest hp ht hi hr hn F t sum magicGood sumGood dest accepted
  have hstep : step s = finishCandidate F t := step_lastByte s b rest hp ht hi hr hn
  obtain ⟨badMagic, badChecksum, badVersion, valid⟩ := validate_outcome_iffs s.cfg.protoVersion F
  rw [hstep]
  refine ⟨fun hm => ?_, fun hm hs => ?_, fun hm hs hv => ?_, fun hm hs hv hd => ?_, fun hm hs hv hd => ?_⟩
  · exact finishCandidate_of_rejection (rejection_of_badMagic _ _ F (badMagic.2 hm))
  · exact finishCandidate_of_rejection (rejection_of_badChecksum _ _ F (badChecksum.2 ⟨hm, hs⟩))
  · exact finishCandidate_of_rejection (rejection_of_badVersion _ _ F (badVersion.2 ⟨hm, hs, hv⟩))
  · exact finishCandidate_of_rejection (rejection_of_misaddressed _ _ F (valid.2 ⟨hm, hs, hv⟩) hd)
  · exact finishCandidate_of_no_rejection (rejection_of_accepted _ _ F (valid.2 ⟨hm, hs, hv⟩) hd)

end Sys2Proof.Machine
end

section
/-! PROOFS. The motion encoding of the actuator bank on the integers (43_actuator.md R181). -/

namespace Sys2Proof.Machine

/-- A level is the integer saturated at 255: what is saturated fits in a byte, so nothing wraps (R181). -/
theorem levelOf_toNat {n : Int} (h : 0 ≤ n) : ((levelOf n).toNat : Int) = min n 255 := by
  rw [levelOf, BitVec.toNat_ofInt, levelMax]
  omega

/-- A positive value drives the high channel alone. -/
theorem motion_of_pos {v : Half} (h : 0 < s16 v) : motion v = (levelOf (s16 v), 0) := if_pos h

/-- A negative value drives the low channel alone, at its absolute value as an integer (D28). -/
theorem motion_of_neg {v : Half} (h : s16 v < 0) : motion v = (0, levelOf (-(s16 v))) := by
  rw [motion, if_neg (by omega), if_pos h]

/-- Zero drives both channels to 0. -/
theorem motion_of_zero {v : Half} (h : s16 v = 0) : motion v = (0, 0) := by
  rw [motion, if_neg (by omega), if_neg (by omega)]

/-- Both levels of `motion` on the integers, by the sign of the value. -/
theorem motion_toNat (v : Half) :
    ((motion v).1.toNat : Int) = (if 0 < s16 v then min (s16 v) 255 else 0) ∧
    ((motion v).2.toNat : Int) = (if s16 v < 0 then min (-(s16 v)) 255 else 0) := by
  rcases lt_trichotomy (s16 v) 0 with neg | zero | pos
  · rw [motion_of_neg neg, if_neg (by omega), if_pos neg]
    exact ⟨rfl, levelOf_toNat (by omega)⟩
  · rw [motion_of_zero zero, if_neg (by omega), if_neg (by omega)]
    exact ⟨rfl, rfl⟩
  · rw [motion_of_pos pos, if_pos pos, if_neg (by omega)]
    exact ⟨levelOf_toNat (by omega), rfl⟩

/-- Settles O30: the general part is `motion_toNat`, the rule's examples are runs of `motion`. -/
theorem motionClampsOntoOneChannel : Obligations.MotionClampsOntoOneChannel :=
  ⟨motion_toNat, by decide⟩

end Sys2Proof.Machine
end

section
/-! PROOFS. Dispatch by payload type (44_dispatch.md R200): the frames read as `DEVINFO`, `HALT` and `SOLENOID`, and the reports of
every other type (R205 to R209). -/

namespace Sys2Proof.Machine

/-! ## Reading a frame by its type -/

/-- A value of two zero bytes is zero, and no other is (R103). -/
theorem le16_eq_zero_iff (a b : Byte) : le16 a b = 0 ↔ a = 0 ∧ b = 0 :=
  le16_inj (c := 0) (d := 0)

section
variable {F : Frame} (h0 : F[0] = magic0) (h1 : F[1] = magic1)
include h0 h1

/-- A frame of type `0x10` is `DEVINFO` with the members of its payload (R99). -/
theorem decode_devinfo (ht : F[5] = 0x10#8) :
    decode F = .ok (.devinfo (Frame.dest F) (le16 F[6] F[7]) F[8] F[9]) := by
  simp [decode, Frame.ptype, h0, h1, ht]

/-- A frame of type `0x11` with the sentinel in its first three payload bytes is `HALT` (R103). -/
theorem decode_halt (ht : F[5] = 0x11#8) (hs : F[6] = haltId ∧ F[7] = 0 ∧ F[8] = 0) :
    decode F = .ok (.halt (Frame.dest F)) := by
  rw [← le16_eq_zero_iff] at hs
  simp [decode, Frame.ptype, h0, h1, ht, hs]

/-- A frame of type `0x11` without it is `SOLENOID` (R102). -/
theorem decode_solenoid (ht : F[5] = 0x11#8) (hs : ¬ (F[6] = haltId ∧ F[7] = 0 ∧ F[8] = 0)) :
    decode F = .ok (.solenoid (Frame.dest F) F[6] (le16 F[7] F[8])) := by
  rw [← le16_eq_zero_iff] at hs
  simpa [decode, Frame.ptype, h0, h1, ht] using hs

end

/-- A frame that is read as a command has that command's effect (R200). -/
theorem dispatch_of_decode {F : Frame} {i : Instr} (h : decode F = .ok i) (s : State) : dispatch F s = exec i s := by
  simp [dispatch, h]

/-! ## The types without a handler -/

/-- A command of a type other than `DeviceInfo` and `SolenoidControl` is reported by its type (R205 to R208). -/
theorem exec_of_no_handler (i : Instr) (s : State) (h10 : i.typeCode ≠ 0x10#8) (h11 : i.typeCode ≠ 0x11#8) :
    exec i s = .next (s.report (.unknownType i.typeCode)) := by
  cases i with
  | devinfo => exact absurd rfl h10
  | halt => exact absurd rfl h11
  | solenoid => exact absurd rfl h11
  | temp => rfl
  | accel => rfl
  | angvel => rfl
  | direction => rfl

/-- So is every frame of such a type, whether the type is one of the six or not: the report is the same (R205 to R209). -/
theorem dispatch_of_no_handler (F : Frame) (s : State) (h10 : F[5] ≠ 0x10#8) (h11 : F[5] ≠ 0x11#8) :
    dispatch F s = .next (s.report (.unknownType F[5])) := by
  rcases dispatch_cases F s with ⟨i, hdec, hrun⟩ | ⟨_, _, hrun⟩
  · obtain ⟨_, _, htype, _⟩ := decode_ok_cases hdec
    rw [htype] at h10 h11 ⊢
    rw [hrun, exec_of_no_handler i s h10 h11]
  · exact hrun

/-- Settles O18: a type below `0x10` or above `0x15` is neither of the two that have a handler. -/
theorem unknownTypeIsReported : Obligations.UnknownTypeIsReported := by
  intro F s _ _ ht
  refine dispatch_of_no_handler F s (fun h => ?_) (fun h => ?_) <;> simp [h] at ht

/-- Settles O27: the commands by `exec_of_no_handler`, the frames by `dispatch_of_no_handler`. -/
theorem telemetryIsRejected : Obligations.TelemetryIsRejected := by
  constructor
  · intro s d x y z
    refine ⟨exec_of_no_handler _ s ?_ ?_, exec_of_no_handler _ s ?_ ?_, exec_of_no_handler _ s ?_ ?_,
      exec_of_no_handler _ s ?_ ?_⟩ <;> simp [Instr.typeCode]
  · intro s F _ _ ht
    refine dispatch_of_no_handler F s (fun h => ?_) (fun h => ?_) <;> simp [h] at ht

/-! ## The peer report -/

/-- `DEVINFO` reports its operands (R201). -/
theorem exec_devinfo (d address : Half) (version status : Byte) (s : State) :
    exec (.devinfo d address version status) s = .next (s.report (.peerInfo address version status)) := rfl

/-- Settles O26: `exec_devinfo`, with the operands `decode_devinfo` reads. -/
theorem devinfoReportsThePeer : Obligations.DevinfoReportsThePeer := by
  refine ⟨fun s d address version status => exec_devinfo d address version status s, fun s F h0 h1 ht => ?_⟩
  rw [dispatch_of_decode (decode_devinfo h0 h1 ht), exec_devinfo]
  rfl

/-! ## An id outside the bank -/

/-- `SOLENOID` with an id at or above `BANK_SIZE` reports the id (R204). -/
theorem exec_solenoid_of_id_ge (d value : Half) {id : Byte} {s : State} (h : s.cfg.bankSize ≤ id.toNat) :
    exec (.solenoid d id value) s = .next (s.report (.actIdRange id)) := if_neg (Nat.not_lt.2 h)

/-- `SOLENOID` with an id below it is `ACT_SET` (R203). -/
theorem exec_solenoid_of_id_lt (d value : Half) {id : Byte} {s : State} (h : id.toNat < s.cfg.bankSize) :
    exec (.solenoid d id value) s = .next (actSet id.toNat value s) := if_pos h

/-- Settles O28: `exec_solenoid_of_id_ge`, on the operands `decode_solenoid` reads. -/
theorem solenoidOutOfRangeIsRejected : Obligations.SolenoidOutOfRangeIsRejected := by
  refine ⟨fun s d value id h _ => exec_solenoid_of_id_ge d value h, fun s F h0 h1 ht hid hs => ?_⟩
  rw [dispatch_of_decode (decode_solenoid h0 h1 ht hs), exec_solenoid_of_id_ge _ _ hid]
  rfl

end Sys2Proof.Machine
end

section
/-! PROOFS. What `SOLENOID` and `HALT` do to the bank and to the write events (44_dispatch.md R202, R203, 43_actuator.md R180 to
R183). -/

namespace Sys2Proof.Machine

/-! ## One actuator -/

/-- Both channel writes on an enabled actuator set both levels (R180). -/
theorem Actuator.gatedPair_of_en {a : Actuator} (h l : Byte) (he : a.en = true) : a.gatedPair h l = ⟨true, h, l⟩ := by
  simp [Actuator.gatedPair, he]

/-- On a disabled one they change nothing (R180). -/
theorem Actuator.gatedPair_of_not_en {a : Actuator} (h l : Byte) (he : a.en = false) : a.gatedPair h l = a := by
  simp [Actuator.gatedPair, he]

/-- The events of both channel writes on the actuator they go to: gated by its enable bit, one for each level that changes, high
before low (R180, R182, D29). -/
theorem pairEvents_of_getElem? {bank : List Actuator} {i : Nat} {a : Actuator} (h l : Byte) (ha : bank[i]? = some a) :
    pairEvents h l i bank =
      if a.en then (if a.hi = h then [] else [⟨i, .hi, h⟩]) ++ (if a.lo = l then [] else [⟨i, .lo, l⟩]) else [] := by
  cases he : a.en <;> simp [pairEvents, chanEvents, ha, he]

/-- Writing through `modify` is setting the element that is there. -/
theorem modify_eq_set_of_getElem? {α : Type} {l : List α} {i : Nat} {a : α} (f : α → α) (ha : l[i]? = some a) :
    l.modify i f = l.set i (f a) := by
  rw [List.modify_eq_set_getElem?, ha]
  rfl

/-- Setting an element to itself changes nothing. -/
theorem set_eq_self_of_getElem? {α : Type} {l : List α} {i : Nat} {a : α} (ha : l[i]? = some a) : l.set i a = l := by
  obtain ⟨hi, rfl⟩ := List.getElem?_eq_some_iff.mp ha
  exact List.set_getElem_self hi

/-! ## SOLENOID -/

/-- An integer that is not negative is clamped from above only (R181). -/
theorem clampLevel_of_nonneg {n : Int} (h : 0 ≤ n) : clampLevel n = levelOf n := by
  rw [clampLevel, levelOf, levelMax, max_eq_right (by omega)]

/-- One that is not positive is clamped to 0 (R181). -/
theorem clampLevel_of_nonpos {n : Int} (h : n ≤ 0) : clampLevel n = 0 := by
  rw [clampLevel, max_eq_left (by omega)]
  rfl

/-- The levels of a motion are the value and its negation, each clamped: at most one of the two is positive (R181). -/
theorem motion_eq_clampLevel (v : Half) : motion v = (clampLevel (s16 v), clampLevel (-(s16 v))) := by
  rcases lt_trichotomy (s16 v) 0 with neg | zero | pos
  · rw [motion_of_neg neg, clampLevel_of_nonpos (by omega), clampLevel_of_nonneg (by omega)]
  · rw [motion_of_zero zero, clampLevel_of_nonpos (by omega), clampLevel_of_nonpos (by omega)]
  · rw [motion_of_pos pos, clampLevel_of_nonneg (by omega), clampLevel_of_nonpos (by omega)]

/-- `ACT_SET` on an enabled actuator (R182). -/
theorem actSet_of_en {s : State} {i : Nat} {a : Actuator} (v : Half) (ha : s.bank[i]? = some a) (he : a.en = true) :
    let h := clampLevel (s16 v)
    let l := clampLevel (-(s16 v))
    actSet i v s = { s with
      bank := s.bank.set i { en := true, hi := h, lo := l }
      pwmOut := s.pwmOut ++ (if a.hi = h then [] else [⟨i, .hi, h⟩]) ++ (if a.lo = l then [] else [⟨i, .lo, l⟩]) } := by
  simp only [actSet_eq, motion_eq_clampLevel, modify_eq_set_of_getElem? _ ha, pairEvents_of_getElem? _ _ ha,
    Actuator.gatedPair_of_en _ _ he, if_pos he, List.append_assoc]

/-- `ACT_SET` on a disabled actuator does nothing (R182). -/
theorem actSet_of_not_en {s : State} {i : Nat} {a : Actuator} (v : Half) (ha : s.bank[i]? = some a) (he : a.en = false) :
    actSet i v s = s := by
  simp [actSet_eq, modify_eq_set_of_getElem? _ ha, pairEvents_of_getElem? _ _ ha, Actuator.gatedPair_of_not_en _ _ he, he,
    set_eq_self_of_getElem? ha]

/-- Settles O29: `ACT_SET` on an enabled and on a disabled actuator, and the frames `decode_solenoid` reads. -/
theorem solenoidDrivesAnEnabledActuator : Obligations.SolenoidDrivesAnEnabledActuator := by
  constructor
  · intro s d value id a hid ha h l
    rw [exec_solenoid_of_id_lt d value hid]
    cases he : a.en with
    | true => rw [actSet_of_en value ha he, if_pos rfl]
    | false => rw [actSet_of_not_en value ha he, if_neg (by decide)]
  · intro s F h0 h1 ht _ hs
    exact dispatch_of_decode (decode_solenoid h0 h1 ht hs) s

/-! ## HALT -/

/-- Going through the indices of a list in ascending order is going through its elements with their indices. -/
theorem flatMap_range_length_eq_zipIdx {α β : Type} (l : List α) (f : Nat → List β) :
    (List.range l.length).flatMap f = l.zipIdx.flatMap fun p => f p.2 := by
  rw [List.range_eq_range', ← List.zipIdx_map_snd 0 l, List.flatMap_map]

/-- Settles O31: `haltAll_eq`, with the events read off each actuator in turn, and the frames `decode_halt` reads. -/
theorem haltZeroesEveryEnabledActuator : Obligations.HaltZeroesEveryEnabledActuator := by
  refine ⟨fun s d hlen => ?_, fun s F h0 h1 ht h6 h7 h8 => ?_⟩
  · have run : exec (.halt d) s = .next (haltAll s) := rfl
    rw [run, haltAll_eq s hlen, ← hlen, flatMap_range_length_eq_zipIdx,
      List.flatMap_congr fun p hp => pairEvents_of_getElem? 0 0 (List.mem_zipIdx_iff_getElem?.mp hp)]
    rfl
  · exact dispatch_of_decode (decode_halt h0 h1 ht ⟨h6, h7, h8⟩) s

end Sys2Proof.Machine
end

section
/-! PROOFS. The five boot steps (70_reset_and_hazards.md R262 to R267), each as the next state of a BOOT turn in its phase. -/

namespace Sys2Proof.Machine

section
variable {s : State} (ht : s.nextTurn = .boot)
include ht

/-- `BOOT(0)` loads the stored address, or the default one where none is stored (R262). -/
theorem step_boot0 (hp : s.phase = .boot 0) :
    step s = .next { s with
      turns := s.turns.tail, nodeAddr := s.bootIn.storedAddr.getD s.cfg.defaultAddr, phase := .boot 1 } :=
  step_boot s 0 ht hp

/-- `BOOT(1)` enables every actuator of a bank of the configured size and keeps its levels (R263). -/
theorem step_boot1 (hp : s.phase = .boot 1) (hlen : s.bank.length = s.cfg.bankSize) :
    step s = .next { s with
      turns := s.turns.tail, bank := s.bank.map fun a => { a with en := true }, phase := .boot 2 } := by
  rw [step_boot s 1 ht hp, bootStep, boot1, enableAll_eq (s.setTurns s.turns.tail) hlen]
  rfl

/-- `BOOT(2)` opens the link layer, or the start-up fails (R264, R267). -/
theorem step_boot2 (hp : s.phase = .boot 2) :
    step s = .next (if s.bootIn.channelInitOk = true then { s with turns := s.turns.tail, phase := .boot 3 }
      else { s with
        turns := s.turns.tail, phase := .failed, reportOut := s.reportOut ++ [.fatalChannelInit] }) :=
  step_boot s 2 ht hp

/-- `BOOT(3)` arms the broadcast scheduler, or the start-up fails (R265, R267). -/
theorem step_boot3 (hp : s.phase = .boot 3) :
    step s = .next (if s.bootIn.timerArmOk = true then { s with turns := s.turns.tail, sched := .armed, phase := .boot 4 }
      else { s with
        turns := s.turns.tail, phase := .failed, reportOut := s.reportOut ++ [.fatalTimerArm] }) :=
  step_boot s 3 ht hp

/-- `BOOT(4)` sends the announcement and enters the steady state (R266). -/
theorem step_boot4 (hp : s.phase = .boot 4) :
    let F := build s.cfg.protoVersion 0x10#8 broadcast
      [lo8 s.nodeAddr, hi8 s.nodeAddr, BitVec.ofNat 8 (s.cfg.fwMajor.toNat * 16 + s.cfg.fwMinor.toNat), s.thermal.code]
    step s = .next { s with
      turns := s.turns.tail, txBuf := F, txOut := s.txOut ++ Frame.bytes F, phase := .run } := by
  rw [step_boot s 4 ht hp, bootStep, boot4, announce_eq]
  rfl

end

/-- Settles O43: one lemma per boot step, and in `BOOT(0)`, `BOOT(2)` and `BOOT(3)` the boot-time input that decides the
branch. -/
theorem bootStepsFollowTheSequence : Obligations.BootStepsFollowTheSequence := by
  intro s ht s'
  refine ⟨fun hp => ⟨fun a stored => ?_, fun missing => ?_⟩, fun hp hlen => step_boot1 ht hp hlen,
    fun hp => ⟨fun opened => ?_, fun notOpened => ?_⟩, fun hp => ⟨fun armed => ?_, fun notArmed => ?_⟩,
    fun hp => step_boot4 ht hp⟩
  · rw [step_boot0 ht hp, stored, Option.getD_some]
  · rw [step_boot0 ht hp, missing, Option.getD_none]
  · rw [step_boot2 ht hp, if_pos opened]
  · rw [step_boot2 ht hp, if_neg (by simp [notOpened])]
  · rw [step_boot3 ht hp, if_pos armed]
  · rw [step_boot3 ht hp, if_neg (by simp [notArmed])]

end Sys2Proof.Machine
end

section
/-! PROOFS. The encoder against the decoder (30_encoding.md R107, R111, R113): a frame is read as `i` exactly when `i` is well
formed and the frame holds, in the bytes of `i`, what `encode` writes there. -/

namespace Sys2Proof
open Sys2Proof.Machine

/-! ## Reading a frame by its type -/

section
variable {F : Frame} (h0 : F[0] = magic0) (h1 : F[1] = magic1)
include h0 h1

/-- A frame of type `0x12` is `TEMP` (R104). -/
theorem decode_temp (ht : F[5] = 0x12#8) : decode F = .ok (.temp (Frame.dest F) (le16 F[6] F[7])) := by
  simp [decode, Frame.ptype, h0, h1, ht]

/-- A frame of type `0x13` is `ACCEL` (R105). -/
theorem decode_accel (ht : F[5] = 0x13#8) :
    decode F = .ok (.accel (Frame.dest F) (le16 F[6] F[7]) (le16 F[8] F[9]) (le16 F[10] F[11])) := by
  simp [decode, Frame.ptype, h0, h1, ht]

/-- A frame of type `0x14` is `ANGVEL` (R105). -/
theorem decode_angvel (ht : F[5] = 0x14#8) :
    decode F = .ok (.angvel (Frame.dest F) (le16 F[6] F[7]) (le16 F[8] F[9]) (le16 F[10] F[11])) := by
  simp [decode, Frame.ptype, h0, h1, ht]

/-- A frame of type `0x15` is `DIRECTION` (R105). -/
theorem decode_direction (ht : F[5] = 0x15#8) :
    decode F = .ok (.direction (Frame.dest F) (le16 F[6] F[7]) (le16 F[8] F[9]) (le16 F[10] F[11])) := by
  simp [decode, Frame.ptype, h0, h1, ht]

/-- A frame of any other type is rejected by its type (R108). -/
theorem decode_unknown (h10 : F[5] ≠ 0x10#8) (h11 : F[5] ≠ 0x11#8) (h12 : F[5] ≠ 0x12#8) (h13 : F[5] ≠ 0x13#8)
    (h14 : F[5] ≠ 0x14#8) (h15 : F[5] ≠ 0x15#8) : decode F = .error (.unknownType F[5]) := by
  simp [decode, Frame.ptype, h0, h1, h10, h11, h12, h13, h14, h15]

end

/-- A frame without the magic is no command (R92). -/
theorem decode_noMagic {F : Frame} (h : ¬ (F[0] = magic0 ∧ F[1] = magic1)) : decode F = .error .noMagic := by
  rw [not_and_or] at h
  exact if_pos h

/-- A command that is read carries the destination of its frame (R93). -/
theorem dest_of_decode {F : Frame} {i : Instr} (h : decode F = .ok i) : i.dest = Frame.dest F := by
  obtain ⟨_, _, _, hi⟩ := decode_ok_cases h
  rcases hi with rfl | ⟨rfl, _⟩ | ⟨rfl, _⟩ | rfl | rfl | rfl | rfl <;> rfl

/-! ## The bytes a command is read from -/

/-- `F` holds in the bytes of `i` what `encode` writes there. -/
def HoldsOperands (ver : Byte) (F : Frame) (i : Instr) : Prop := ∀ k ∈ i.operandBytes, (encode ver i)[k] = F[k]

/-- What is read is well formed, and `encode` writes the same operand bytes: the low and high bytes of every member are the
bytes it was put together from. -/
theorem holdsOperands_of_decode {ver : Byte} {F : Frame} {i : Instr} (h : decode F = .ok i) :
    i.WellFormed ∧ HoldsOperands ver F i := by
  obtain ⟨h0, h1, h5, hi⟩ := decode_ok_cases h
  have magic : (encode ver i)[0] = F[0] ∧ (encode ver i)[1] = F[1] := ⟨h0.symm, h1.symm⟩
  have type : (encode ver i)[5] = F[5] := h5.symm
  have dest : (encode ver i)[2] = F[2] ∧ (encode ver i)[3] = F[3] := by
    show lo8 i.dest = F[2] ∧ hi8 i.dest = F[3]
    rw [dest_of_decode h]
    exact ⟨lo8_le16 _ _, hi8_le16 _ _⟩
  rcases hi with rfl | ⟨rfl, h6, hv⟩ | ⟨rfl, hs⟩ | rfl | rfl | rfl | rfl
  all_goals simp only [HoldsOperands, Instr.operandBytes, List.forall_mem_cons]
  case inr.inl =>
    obtain ⟨h7, h8⟩ := (le16_eq_zero_iff _ _).1 hv
    exact ⟨trivial, magic.1, magic.2, dest.1, dest.2, type, h6.symm, h7.symm, h8.symm, List.forall_mem_nil _⟩
  · exact ⟨trivial, magic.1, magic.2, dest.1, dest.2, type, lo8_le16 _ _, hi8_le16 _ _, rfl, rfl, List.forall_mem_nil _⟩
  · exact ⟨hs, magic.1, magic.2, dest.1, dest.2, type, rfl, lo8_le16 _ _, hi8_le16 _ _, List.forall_mem_nil _⟩
  · exact ⟨trivial, magic.1, magic.2, dest.1, dest.2, type, lo8_le16 _ _, hi8_le16 _ _, List.forall_mem_nil _⟩
  all_goals exact ⟨trivial, magic.1, magic.2, dest.1, dest.2, type, lo8_le16 _ _, hi8_le16 _ _, lo8_le16 _ _, hi8_le16 _ _,
    lo8_le16 _ _, hi8_le16 _ _, List.forall_mem_nil _⟩

/-- The magic, the type and the destination are operand bytes of every command. -/
theorem HoldsOperands.head {ver : Byte} {F : Frame} {i : Instr} (h : HoldsOperands ver F i) :
    F[0] = magic0 ∧ F[1] = magic1 ∧ F[5] = i.typeCode ∧ Frame.dest F = i.dest := by
  have hmem : ∀ k ∈ ([0, 1, 2, 3, 5] : List (Fin 16)), k ∈ i.operandBytes := by
    cases i <;> simp [Instr.operandBytes]
  have h2 : lo8 i.dest = F[2] := h 2 (hmem 2 (by simp))
  have h3 : hi8 i.dest = F[3] := h 3 (hmem 3 (by simp))
  refine ⟨(h 0 (hmem 0 (by simp))).symm, (h 1 (hmem 1 (by simp))).symm, (h 5 (hmem 5 (by simp))).symm, ?_⟩
  rw [Frame.dest, ← h2, ← h3, le16_lo8_hi8]

/-- A payload member written by `encode` in two bytes is read back from them. -/
theorem le16_of_lo8_hi8 {v : Half} {a b : Byte} (ha : lo8 v = a) (hb : hi8 v = b) : le16 a b = v := by
  rw [← ha, ← hb, le16_lo8_hi8]

/-- So are the three members of a vector payload (R105). -/
theorem vector_of_bytes {ver t : Byte} {d x y z : Half} {F : Frame}
    (h : ∀ k ∈ ([0, 1, 2, 3, 5, 6, 7, 8, 9, 10, 11] : List (Fin 16)), (build ver t d (vector3x16Payload x y z))[k] = F[k]) :
    le16 F[6] F[7] = x ∧ le16 F[8] F[9] = y ∧ le16 F[10] F[11] = z :=
  ⟨le16_of_lo8_hi8 (h 6 (by decide)) (h 7 (by decide)), le16_of_lo8_hi8 (h 8 (by decide)) (h 9 (by decide)),
    le16_of_lo8_hi8 (h 10 (by decide)) (h 11 (by decide))⟩

/-- A frame that holds the operand bytes of a well-formed command is read as it. -/
theorem decode_of_holdsOperands {ver : Byte} {F : Frame} {i : Instr} (wf : i.WellFormed) (h : HoldsOperands ver F i) :
    decode F = .ok i := by
  obtain ⟨h0, h1, h5, hd⟩ := h.head
  cases i with
  | devinfo d address version status =>
    simp only [HoldsOperands, Instr.operandBytes, List.forall_mem_cons] at h
    obtain ⟨-, -, -, -, -, h6, h7, h8, h9, -⟩ := h
    have haddress : le16 F[6] F[7] = address := le16_of_lo8_hi8 h6 h7
    have hversion : F[8] = version := h8.symm
    have hstatus : F[9] = status := h9.symm
    rw [decode_devinfo h0 h1 h5, hd, haddress, hversion, hstatus]
    rfl
  | halt d =>
    simp only [HoldsOperands, Instr.operandBytes, List.forall_mem_cons] at h
    obtain ⟨-, -, -, -, -, h6, h7, h8, -⟩ := h
    rw [decode_halt h0 h1 h5 ⟨h6.symm, h7.symm, h8.symm⟩, hd]
    rfl
  | solenoid d id value =>
    simp only [HoldsOperands, Instr.operandBytes, List.forall_mem_cons] at h
    obtain ⟨-, -, -, -, -, h6, h7, h8, -⟩ := h
    have hid : F[6] = id := h6.symm
    have hvalue : le16 F[7] F[8] = value := le16_of_lo8_hi8 h7 h8
    have notHalt : ¬ (F[6] = haltId ∧ F[7] = 0 ∧ F[8] = 0) := by
      rw [← le16_eq_zero_iff, hid, hvalue]
      exact wf
    rw [decode_solenoid h0 h1 h5 notHalt, hd, hid, hvalue]
    rfl
  | temp d value =>
    simp only [HoldsOperands, Instr.operandBytes, List.forall_mem_cons] at h
    obtain ⟨-, -, -, -, -, h6, h7, -⟩ := h
    have hvalue : le16 F[6] F[7] = value := le16_of_lo8_hi8 h6 h7
    rw [decode_temp h0 h1 h5, hd, hvalue]
    rfl
  | accel d x y z =>
    obtain ⟨hx, hy, hz⟩ := vector_of_bytes h
    rw [decode_accel h0 h1 h5, hd, hx, hy, hz]
    rfl
  | angvel d x y z =>
    obtain ⟨hx, hy, hz⟩ := vector_of_bytes h
    rw [decode_angvel h0 h1 h5, hd, hx, hy, hz]
    rfl
  | direction d x y z =>
    obtain ⟨hx, hy, hz⟩ := vector_of_bytes h
    rw [decode_direction h0 h1 h5, hd, hx, hy, hz]
    rfl

/-- When a frame is read as `i` (R107, R113). -/
theorem decode_ok_iff (ver : Byte) (F : Frame) (i : Instr) :
    decode F = .ok i ↔ i.WellFormed ∧ HoldsOperands ver F i :=
  ⟨holdsOperands_of_decode, fun ⟨wf, h⟩ => decode_of_holdsOperands wf h⟩

/-- A built frame validates (R126). -/
theorem validate_build (ver t : Byte) (d : Half) (p : List Byte) :
    validate ver (build ver t d p) = .ok (build ver t d p) :=
  (validate_ok_iff _ _ _).2 ⟨rfl, rfl, rfl, build_csum ver t d p, rfl⟩

/-- Settles O1: `encode` writes a built frame, which holds its own operand bytes. -/
theorem encodedCommandsDecodeToThemselves : Obligations.EncodedCommandsDecodeToThemselves :=
  fun ver _ wf => ⟨validate_build _ _ _ _, decode_of_holdsOperands (ver := ver) wf fun _ _ => rfl, build_dest _ _ _ _⟩

/-- Settles O2: one direction of `decode_ok_iff`. -/
theorem decodedCommandsReencodeTheirBytes : Obligations.DecodedCommandsReencodeTheirBytes :=
  fun _ _ _ h => holdsOperands_of_decode h

/-- A frame that agrees with `F` on the bytes of the command read from `F` is read as the same command. -/
theorem decode_congr {F G : Frame} {i : Instr} (h : decode F = .ok i) (agree : ∀ k ∈ i.operandBytes, G[k] = F[k]) :
    decode G = .ok i := by
  obtain ⟨wf, ops⟩ := (decode_ok_iff 0 F i).1 h
  exact (decode_ok_iff 0 G i).2 ⟨wf, fun k hk => (ops k hk).trans (agree k hk).symm⟩

/-- Settles O3: both directions of `decode_ok_iff`, through the bytes of the command. -/
theorem unusedBytesAreNotRead : Obligations.UnusedBytesAreNotRead :=
  fun _ _ _ h agree => decode_congr h agree

/-- Settles O11: the fields of a built frame. -/
theorem builtFramesValidate : Obligations.BuiltFramesValidate :=
  fun ver t d p _ => ⟨validate_build ver t d p, build_dest ver t d p, build_ptype ver t d p⟩

/-! ## The payload type and the sentinel -/

/-- Settles O5: in the range the type is one of the six rows, outside it is none of them. -/
theorem typesOutsideTheSixAreUnknown : Obligations.TypesOutsideTheSixAreUnknown := by
  intro F h0 h1
  constructor
  · intro rejected
    by_contra inRange
    have six : F[5] = 0x10#8 ∨ F[5] = 0x11#8 ∨ F[5] = 0x12#8 ∨ F[5] = 0x13#8 ∨ F[5] = 0x14#8 ∨ F[5] = 0x15#8 := by
      bv_omega
    have read : ∃ i, decode F = .ok i := by
      rcases six with ht | ht | ht | ht | ht | ht
      · exact ⟨_, decode_devinfo h0 h1 ht⟩
      · by_cases hs : F[6] = haltId ∧ F[7] = 0 ∧ F[8] = 0
        · exact ⟨_, decode_halt h0 h1 ht hs⟩
        · exact ⟨_, decode_solenoid h0 h1 ht hs⟩
      · exact ⟨_, decode_temp h0 h1 ht⟩
      · exact ⟨_, decode_accel h0 h1 ht⟩
      · exact ⟨_, decode_angvel h0 h1 ht⟩
      · exact ⟨_, decode_direction h0 h1 ht⟩
    obtain ⟨i, hi⟩ := read
    rw [rejected] at hi
    cases hi
  · intro outside
    refine decode_unknown h0 h1 ?_ ?_ ?_ ?_ ?_ ?_ <;> intro ht <;> simp [ht] at outside

/-- Settles O6: `decode_halt` and `decode_solenoid`. -/
theorem haltSentinelIsThreeBytes : Obligations.HaltSentinelIsThreeBytes :=
  fun _ h0 h1 h5 => ⟨decode_halt h0 h1 h5, decode_solenoid h0 h1 h5⟩

/-- Settles O7: the payload of `HALT` is that of the pseudo-command (R112). -/
theorem haltIsThePseudoSolenoid : Obligations.HaltIsThePseudoSolenoid := fun _ _ => rfl

/-- Settles O8: seven runs of the decoder. -/
theorem writtenOutFramesDecode : Obligations.WrittenOutFramesDecode := ⟨rfl, rfl, rfl, rfl, rfl, rfl, rfl⟩

/-! ## The opcode table -/

/-- A row that fixes the magic and the type is matched by the frames of that type (R113). -/
theorem typeRow_hits (m : String) (t : Byte) (F : Frame) :
    (typeRow m t).hits F = true ↔ (F[0] = magic0 ∧ F[1] = magic1) ∧ F[5] = t := by
  have ones : ∀ b : Byte, b &&& 255#8 = b := fun b => BitVec.and_allOnes
  simp [OpcodeRow.hits, typeRow, List.finRange, ones, and_assoc]

/-- The first row, which is `HALT`'s (R113). -/
def haltRow : OpcodeRow where
  mnemonic := "HALT"
  pattern := #v[0xC5, 0x34, 0, 0, 0, 0x11, 0xFF, 0, 0, 0, 0, 0, 0, 0, 0, 0]
  mask := #v[0xFF, 0xFF, 0, 0, 0, 0xFF, 0xFF, 0xFF, 0xFF, 0, 0, 0, 0, 0, 0, 0]

/-- It is matched by the frames of type `0x11` that hold the sentinel (R103, R113). -/
theorem haltRow_hits (F : Frame) :
    haltRow.hits F = true ↔ (F[0] = magic0 ∧ F[1] = magic1) ∧ F[5] = 0x11#8 ∧ F[6] = haltId ∧ F[7] = 0 ∧ F[8] = 0 := by
  have ones : ∀ b : Byte, b &&& 255#8 = b := fun b => BitVec.and_allOnes
  simp [OpcodeRow.hits, haltRow, List.finRange, ones, and_assoc]

/-- Looking for the first row a frame matches, row by row. -/
theorem firstHit_cons (F : Frame) (r : OpcodeRow) (rs : List OpcodeRow) :
    ((r :: rs).find? (·.hits F)).map (·.mnemonic) =
      if r.hits F = true then some r.mnemonic else (rs.find? (·.hits F)).map (·.mnemonic) := by
  by_cases h : r.hits F = true <;> simp [h]

/-- The whole table as tests of the magic, the sentinel and the type, in the order of priority (R113). -/
theorem tableMnemonic_eq (F : Frame) :
    tableMnemonic F =
      if F[0] = magic0 ∧ F[1] = magic1 then
        if F[5] = 0x11#8 ∧ F[6] = haltId ∧ F[7] = 0 ∧ F[8] = 0 then some "HALT"
        else if F[5] = 0x10#8 then some "DEVINFO"
        else if F[5] = 0x11#8 then some "SOLENOID"
        else if F[5] = 0x12#8 then some "TEMP"
        else if F[5] = 0x13#8 then some "ACCEL"
        else if F[5] = 0x14#8 then some "ANGVEL"
        else if F[5] = 0x15#8 then some "DIRECTION"
        else none
      else none := by
  have table : opcodeTable = [haltRow, typeRow "DEVINFO" 0x10, typeRow "SOLENOID" 0x11, typeRow "TEMP" 0x12,
    typeRow "ACCEL" 0x13, typeRow "ANGVEL" 0x14, typeRow "DIRECTION" 0x15] := rfl
  rw [tableMnemonic, table]
  simp only [firstHit_cons, typeRow_hits, haltRow_hits]
  by_cases magic : F[0] = magic0 ∧ F[1] = magic1
  · simp only [magic, true_and]
    rfl
  · simp [magic]

/-- Settles O4: the tests of the table are the tests of the decoder. -/
theorem decoderFollowsTheOpcodeTable : Obligations.DecoderFollowsTheOpcodeTable := by
  intro F
  rw [tableMnemonic_eq]
  by_cases magic : F[0] = magic0 ∧ F[1] = magic1
  swap
  · rw [if_neg magic, decode_noMagic magic]
  rw [if_pos magic]
  obtain ⟨h0, h1⟩ := magic
  split_ifs with halt devinfo solenoid temp accel angvel direction
  · rw [decode_halt h0 h1 halt.1 halt.2]
    rfl
  · rw [decode_devinfo h0 h1 devinfo]
    rfl
  · rw [decode_solenoid h0 h1 solenoid (fun sentinel => halt ⟨solenoid, sentinel⟩)]
    rfl
  · rw [decode_temp h0 h1 temp]
    rfl
  · rw [decode_accel h0 h1 accel]
    rfl
  · rw [decode_angvel h0 h1 angvel]
    rfl
  · rw [decode_direction h0 h1 direction]
    rfl
  · rw [decode_unknown h0 h1 devinfo solenoid temp accel angvel direction]

/-! ## Damage to one byte -/

/-- One changed byte changes the checksum of a list. -/
theorem checksum_set_ne {l : List Byte} {j : Nat} (hj : j < l.length) {b : Byte} (hb : b ≠ l[j]) :
    checksum (l.set j b) ≠ checksum l := by
  have around : l = l.take j ++ l[j] :: l.drop (j + 1) := by simp
  intro h
  rw [List.set_eq_take_append_cons_drop, if_pos hj] at h
  exact hb (checksum_inj_at _ _ (h.trans (congrArg checksum around)))

/-- A byte at 4 to 13 is a covered byte (R121). -/
theorem covered_getElem (F : Frame) (j : Nat) (hj : j < 10) : (Frame.covered F)[j]'hj = F[4 + j] := by
  interval_cases j <;> rfl

/-- Setting it sets that covered byte and no other. -/
theorem covered_set (F : Frame) (j : Nat) (hj : j < 10) (b : Byte) :
    Frame.covered (F.set (4 + j) b) = (Frame.covered F).set j b := by
  interval_cases j <;> simp [Frame.covered]

/-- Damage in the magic (R127). -/
theorem validate_set_magic {ver : Byte} {F : Frame} (hv : validate ver F = .ok F) (k : Fin 16) {b : Byte} (hb : b ≠ F[k])
    (hk : k.val < 2) : validate ver (F.set k b) = .error .badMagic := by
  obtain ⟨-, h0, h1, -⟩ := (validate_ok_iff ver F F).1 hv
  refine (validate_outcome_iffs ver _).1.2 fun ⟨g0, g1⟩ => hb ?_
  obtain hk | hk : k = 0 ∨ k = 1 := by omega
  · subst hk
    exact Eq.trans (by simpa using g0) h0.symm
  · subst hk
    exact Eq.trans (by simpa using g1) h1.symm

/-- Damage in a covered byte (R120, R127): the checksum field stays, what it should hold does not. -/
theorem csum_ne_of_set_covered {F : Frame} (hs : Frame.csum F = checksum (Frame.covered F)) (j : Nat) (hj : j < 10)
    {b : Byte} (hb : b ≠ F[4 + j]) :
    Frame.csum (F.set (4 + j) b) ≠ checksum (Frame.covered (F.set (4 + j) b)) := by
  have field : Frame.csum (F.set (4 + j) b) = Frame.csum F := by
    have h14 : 4 + j ≠ 14 := by omega
    have h15 : 4 + j ≠ 15 := by omega
    simp [Frame.csum, h14, h15]
  rw [field, hs, covered_set F j hj]
  rw [← covered_getElem F j hj] at hb
  exact (checksum_set_ne hj hb).symm

/-- Damage in the checksum field itself (R127). -/
theorem csum_ne_of_set_csum {F : Frame} (hs : Frame.csum F = checksum (Frame.covered F)) (k : Fin 16) (hk : 14 ≤ k.val)
    {b : Byte} (hb : b ≠ F[k]) : Frame.csum (F.set k b) ≠ checksum (Frame.covered (F.set k b)) := by
  have stays : Frame.covered (F.set k b) = Frame.covered F := by
    obtain hk | hk : k = 14 ∨ k = 15 := by omega
    · subst hk
      simp [Frame.covered]
    · subst hk
      simp [Frame.covered]
  rw [stays, ← hs, Frame.csum, Frame.csum, Ne, le16_inj]
  rintro ⟨h14, h15⟩
  obtain hk | hk : k = 14 ∨ k = 15 := by omega
  · subst hk
    exact hb (by simpa using h14)
  · subst hk
    exact hb (by simpa using h15)

/-- Damage in any byte after the destination (R127). -/
theorem validate_set_protected {ver : Byte} {F : Frame} (hv : validate ver F = .ok F) (k : Fin 16) {b : Byte} (hb : b ≠ F[k])
    (hk : 4 ≤ k.val) : validate ver (F.set k b) = .error .badChecksum := by
  obtain ⟨-, h0, h1, hs, -⟩ := (validate_ok_iff ver F F).1 hv
  have stay : (F.set k b)[0] = magic0 ∧ (F.set k b)[1] = magic1 := by
    have hk0 : k.val ≠ 0 := by omega
    have hk1 : k.val ≠ 1 := by omega
    simp [hk0, hk1, h0, h1]
  refine (validate_outcome_iffs ver _).2.1.2 ⟨stay, ?_⟩
  obtain ⟨k, hlt⟩ := k
  rcases Nat.lt_or_ge k 14 with hk' | hk'
  · obtain ⟨j, rfl⟩ := Nat.exists_eq_add_of_le hk
    exact csum_ne_of_set_covered hs j (by omega) hb
  · exact csum_ne_of_set_csum hs ⟨k, hlt⟩ hk' hb

/-- The destination bytes are not protected (R127). -/
theorem validate_set_dest {ver : Byte} {F : Frame} (hv : validate ver F = .ok F) (a b : Byte) :
    validate ver ((F.set 2 a).set 3 b) = .ok ((F.set 2 a).set 3 b) := by
  obtain ⟨-, h0, h1, hs, h4⟩ := (validate_ok_iff ver F F).1 hv
  refine (validate_ok_iff ver _ _).2 ⟨rfl, by simpa using h0, by simpa using h1, ?_, by simpa using h4⟩
  have fields : Frame.csum ((F.set 2 a).set 3 b) = Frame.csum F ∧ Frame.covered ((F.set 2 a).set 3 b) = Frame.covered F := by
    simp [Frame.csum, Frame.covered]
  rw [fields.1, fields.2, hs]

/-- Settles O13: by the place of the damaged byte. -/
theorem damageToOneByteIsDetected : Obligations.DamageToOneByteIsDetected :=
  fun _ _ hv => ⟨fun k _ hb => ⟨validate_set_magic hv k hb, validate_set_protected hv k hb⟩, validate_set_dest hv⟩

end Sys2Proof
end

section
/-! PROOFS. What each agent's turn leaves alone (20_memory.md R74), said once for the commands, the RX step, the tick and the host
port; and the statements about turns that are passed on, refused or taken whole. -/

namespace Sys2Proof.Machine

/-! ## The commands -/

/-- At most one report, and that one not fatal: what a turn outside the boot steps can raise. -/
def QuietReports (rs : List Report) : Prop := rs = [] ∨ ∃ e, rs = [e] ∧ e.cls ≠ .fatal

/-- `t` is `s` after something that writes at most levels, write events and one report that is not fatal. -/
def CommandEffect (s t : State) : Prop :=
  ∃ bank pwm reports, t = { s with bank := bank, pwmOut := s.pwmOut ++ pwm, reportOut := s.reportOut ++ reports }
    ∧ bank.map (·.en) = s.bank.map (·.en) ∧ QuietReports reports

theorem CommandEffect.refl (s : State) : CommandEffect s s := ⟨s.bank, [], [], by simp, rfl, .inl rfl⟩

theorem CommandEffect.report (s : State) {e : Report} (h : e.cls ≠ .fatal) : CommandEffect s (s.report e) :=
  ⟨s.bank, [], [e], by simp [State.report], rfl, .inr ⟨e, rfl, h⟩⟩

@[simp] theorem Actuator.gatedPair_en (h l : Byte) (a : Actuator) : (a.gatedPair h l).en = a.en := by
  cases he : a.en <;> simp [Actuator.gatedPair, he]

/-- What `f` keeps of every actuator is kept of the bank where `f` is applied at one index. -/
theorem map_modify_of_kept {α : Type} {g : Actuator → α} {f : Actuator → Actuator} (hf : ∀ a, g (f a) = g a)
    (bank : List Actuator) (i : Nat) : (bank.modify i f).map g = bank.map g := by
  apply List.ext_getElem?
  intro j
  rw [List.getElem?_map, List.getElem?_map, List.getElem?_modify]
  cases bank[j]? with
  | none => rfl
  | some a => by_cases hij : i = j <;> simp [hij, hf]

theorem actSet_effect (i : Nat) (v : Half) (s : State) : CommandEffect s (actSet i v s) :=
  ⟨_, _, [], by rw [actSet_eq, List.append_nil], map_modify_of_kept (Actuator.gatedPair_en _ _) s.bank i, .inl rfl⟩

theorem haltAll_effect (s : State) : CommandEffect s (haltAll s) := by
  refine ⟨_, _, [], by rw [haltAll, foldl_haltOne_eq, List.append_nil], ?_, .inl rfl⟩
  apply List.ext_getElem?
  intro j
  rw [List.getElem?_map, List.getElem?_map, List.getElem?_mapIdx]
  cases s.bank[j]? with
  | none => rfl
  | some a => by_cases hj : j < s.cfg.bankSize <;> simp [hj]

/-- Every command goes on with such an effect (R200). -/
theorem exec_effect (i : Instr) (s : State) : ∃ t, exec i s = .next t ∧ CommandEffect s t := by
  rcases exec_cases i s with ⟨e, h, he, _⟩ | h | ⟨id, v, _, h⟩
  · exact ⟨_, h, .report s he⟩
  · exact ⟨_, h, haltAll_effect s⟩
  · exact ⟨_, h, actSet_effect _ _ s⟩

/-- So does every accepted frame (R200, R209). -/
theorem dispatch_effect (F : Frame) (s : State) : ∃ t, dispatch F s = .next t ∧ CommandEffect s t := by
  rcases dispatch_cases F s with ⟨i, _, h⟩ | ⟨_, _, h⟩
  · rw [h]
    exact exec_effect i s
  · exact ⟨_, h, .report s (by simp [Report.cls])⟩

/-- A rejection is one of the four recoverable reports with the lowest codes (R221, R222 to R225). -/
theorem rejection_recoverable {ver : Byte} {a : Half} {B : Frame} {e : Report} (h : rejection ver a B = some e) :
    e.cls ≠ .fatal ∧ e.code.toNat < 5 := by
  have four : (∃ b, e = .badMagic b) ∨ (∃ r c, e = .badChecksum r c) ∨ (∃ v, e = .badVersion v) ∨ ∃ d, e = .misaddressed d := by
    rcases validate_cases ver B with ⟨hv, _⟩ | ⟨hv, _⟩ | ⟨hv, _⟩ | ⟨hv, _⟩
    · exact .inl ⟨_, Option.some.inj (h.symm.trans (rejection_of_badMagic _ _ _ hv))⟩
    · exact .inr (.inl ⟨_, _, Option.some.inj (h.symm.trans (rejection_of_badChecksum _ _ _ hv))⟩)
    · exact .inr (.inr (.inl ⟨_, Option.some.inj (h.symm.trans (rejection_of_badVersion _ _ _ hv))⟩))
    · refine .inr (.inr (.inr ⟨Frame.dest B, ?_⟩))
      by_cases hd : Frame.dest B = broadcast ∨ Frame.dest B = a
      · rw [rejection_of_accepted _ _ _ hv hd] at h
        cases h
      · exact Option.some.inj (h.symm.trans (rejection_of_misaddressed _ _ _ hv hd))
  rcases four with ⟨_, rfl⟩ | ⟨_, _, rfl⟩ | ⟨_, rfl⟩ | ⟨_, rfl⟩ <;> simp [Report.cls, Report.code]

/-- A completed candidate goes on with the effect of a report or of a command (R143). -/
theorem finishCandidate_effect (F : Frame) (s : State) : ∃ t, finishCandidate F s = .next t ∧ CommandEffect s t := by
  rcases finishCandidate_cases F s with ⟨e, he, h⟩ | ⟨_, h⟩
  · exact ⟨_, h, .report s (rejection_recoverable he).1⟩
  · rw [h]
    exact dispatch_effect F s

/-- Settles O34: `exec_effect`, without the number of reports. -/
theorem commandsKeepTheRestOfTheState : Obligations.CommandsKeepTheRestOfTheState := by
  intro i s
  obtain ⟨t, ht, bank, pwm, reports, rfl, en, _⟩ := exec_effect i s
  exact ⟨bank, pwm, reports, ht, en⟩

/-! ## The RX agent -/

/-- `t` is `s` after an RX turn: the receive side is written, and what a command can write. -/
def RxEffect (s t : State) : Prop :=
  ∃ rest st n F, CommandEffect { s with rxIn := rest, rxState := st, rxCount := n, rxBuf := F } t

/-- The RX step goes on, with the byte it popped gone and nothing else taken (R140, R147). -/
theorem rxByte_effect (b : Byte) (s : State) : ∃ t st n F, rxByte b s = .next t ∧
    CommandEffect { s with rxState := st, rxCount := n, rxBuf := F } t := by
  cases hr : s.rxState with
  | scan =>
    rw [rxByte_scan b s hr]
    by_cases hb : b = magic0
    · exact ⟨_, .collect, 1, s.rxBuf.set 0 b, by rw [scanByte_magic0 b s hb]; rfl, .refl _⟩
    · exact ⟨_, s.rxState, s.rxCount, s.rxBuf, by rw [scanByte_of_ne_magic0 b s hb], .refl _⟩
  | collect =>
    by_cases hn : s.rxCount = 15
    · rw [rxByte_last b s hr hn]
      obtain ⟨t, ht, effect⟩ := finishCandidate_effect (s.rxBuf.set 15 b)
        ((s.setRxBuf (s.rxBuf.set 15 b)).setRxPos .scan 0)
      exact ⟨t, .scan, 0, s.rxBuf.set 15 b, ht, effect⟩
    · rw [rxByte_collect b s hr hn]
      exact ⟨_, .collect, s.rxCount + 1, s.rxBuf.set s.rxCount.val b, rfl, .refl _⟩

theorem rxAgent_effect (s : State) : ∃ t, rxAgent s = .next t ∧ RxEffect s t := by
  have waits : RxEffect s s := ⟨s.rxIn, s.rxState, s.rxCount, s.rxBuf, .refl s⟩
  by_cases hp : s.phase = .run
  · cases hi : s.rxIn with
    | nil => exact ⟨s, rxAgent_nil s hi, waits⟩
    | cons b rest =>
      obtain ⟨t, st, n, F, ht, effect⟩ := rxByte_effect b (s.setRxIn rest)
      exact ⟨t, (rxAgent_cons s b rest hp hi).trans ht, rest, st, n, F, effect⟩
  · exact ⟨s, rxAgent_of_ne_run s hp, waits⟩

/-! ## TIMER and HOST -/

/-- Every send writes `TXBUF` and adds to the wire (R160). -/
theorem announce_effect (s : State) : ∃ F out, announce s = { s with txBuf := F, txOut := s.txOut ++ out } :=
  ⟨_, _, send_eq _ _ _ s⟩

theorem timerAgent_enabled {s : State} (hs : s.sched = .armed) (hp : s.phase = .boot 4 ∨ s.phase = .run) :
    timerAgent s = .next (announce s) := by
  rcases hp with hp | hp <;> simp [timerAgent, tickEnabled, hs, hp]

theorem timerAgent_not_enabled {s : State} (h : ¬ (s.sched = .armed ∧ (s.phase = .boot 4 ∨ s.phase = .run))) :
    timerAgent s = .next s := by
  have off : tickEnabled s = false := by simpa [tickEnabled] using h
  simp [timerAgent, off]

/-- A tick goes on, and at most sends (R166). -/
theorem timerAgent_effect (s : State) :
    ∃ F out, timerAgent s = .next { s with txBuf := F, txOut := s.txOut ++ out } := by
  by_cases h : s.sched = .armed ∧ (s.phase = .boot 4 ∨ s.phase = .run)
  · obtain ⟨F, out, ha⟩ := announce_effect s
    exact ⟨F, out, by rw [timerAgent_enabled h.1 h.2, ha]⟩
  · exact ⟨s.txBuf, [], by rw [timerAgent_not_enabled h, List.append_nil]⟩

/-- `t` is `s` after a host turn: enable bits are written, or a frame is sent. -/
def HostEffect (s t : State) : Prop :=
  ∃ bank F out, t = { s with bank := bank, txBuf := F, txOut := s.txOut ++ out }
    ∧ bank.map (fun a => (a.hi, a.lo)) = s.bank.map (fun a => (a.hi, a.lo))

theorem HostEffect.setEnable (e : Bool) (s : State) (i : Nat) : HostEffect s (setEnable e s i) :=
  ⟨_, s.txBuf, [], by rw [setEnable_eq, List.append_nil],
    map_modify_of_kept (f := (·.setEn e)) (fun _ => rfl) s.bank i⟩

theorem HostEffect.send (t : Byte) (d : Half) (p : List Byte) (s : State) : HostEffect s (send t d p s) :=
  ⟨s.bank, _, _, send_eq t d p s, rfl⟩

/-- Everything the host port answers: a host effect, or the refusal of an index outside the bank (R35, R184). -/
theorem hostAgent_cases (op : HostOp) (s : State) :
    (∃ t, hostAgent op s = .next t ∧ HostEffect s t) ∨
    ∃ i, (op = .enable i ∨ op = .disable i) ∧ s.cfg.bankSize ≤ i ∧ hostAgent op s = .refused (.hostIndexOutOfRange i) := by
  by_cases hp : s.phase = .run
  swap
  · exact .inl ⟨s, if_neg hp, s.bank, s.txBuf, [], by rw [List.append_nil], rfl⟩
  rw [hostAgent, if_pos hp]
  cases op with
  | enable i =>
    by_cases hi : i < s.cfg.bankSize
    · exact .inl ⟨_, if_pos hi, .setEnable true s i⟩
    · exact .inr ⟨i, .inl rfl, Nat.not_lt.1 hi, if_neg hi⟩
  | disable i =>
    by_cases hi : i < s.cfg.bankSize
    · exact .inl ⟨_, if_pos hi, .setEnable false s i⟩
    · exact .inr ⟨i, .inr rfl, Nat.not_lt.1 hi, if_neg hi⟩
  | announce => exact .inl ⟨_, rfl, .send _ _ _ s⟩
  | sendTemp d v => exact .inl ⟨_, rfl, .send _ _ _ s⟩
  | sendAccel d x y z => exact .inl ⟨_, rfl, .send _ _ _ s⟩

/-! ## The turns of a live node -/

/-- The step of a node that has not failed is its next turn. -/
theorem step_live {s : State} (hp : s.phase ≠ .failed) : step s = liveTurn s.nextTurn (s.setTurns s.turns.tail) := by
  rw [step_eq_takeTurn, takeTurn_live _ _ (by simpa using hp)]

/-- Settles O41: the effect of each agent's turn. -/
theorem agentsWriteTheirOwnState : Obligations.AgentsWriteTheirOwnState := by
  intro s t h
  rcases step_next_cases h with ⟨b, hb, _⟩ | ⟨_, hlive⟩
  · simp [hb]
  refine ⟨fun hn => ?_, fun hn => ?_, fun op hn => ?_, fun hn => ?_⟩ <;> rw [hn] at hlive
  · obtain ⟨t', ht', rest, st, n, F, bank, pwm, reports, rfl, en, _⟩ := rxAgent_effect (s.setTurns s.turns.tail)
    cases ht'.symm.trans hlive
    exact ⟨en, rfl, rfl, rfl, rfl, rfl⟩
  · obtain ⟨F, out, ht'⟩ := timerAgent_effect (s.setTurns s.turns.tail)
    cases ht'.symm.trans hlive
    exact ⟨F, out, rfl⟩
  · rcases hostAgent_cases op (s.setTurns s.turns.tail) with ⟨t', ht', bank, F, out, rfl, levels⟩ | ⟨_, _, _, refused⟩
    · cases ht'.symm.trans hlive
      exact ⟨bank, F, out, rfl, levels⟩
    · cases refused.symm.trans hlive
  · rcases bootAgent_cases hlive with ⟨k, hp, rfl⟩ | ⟨_, rfl⟩
    · obtain ⟨addr, bank, sched, phase, F, out, reports, heq, levels⟩ := bootStep_frame k (s.setTurns s.turns.tail)
      exact ⟨fun run => by simp [run] at hp, addr, bank, sched, phase, F, out, reports, heq, levels⟩
    · exact ⟨fun _ => rfl, s.nodeAddr, s.bank, s.sched, s.phase, s.txBuf, [], [], by simp [State.setTurns], rfl⟩

/-- A BOOT turn is always answered by a next state (R261). -/
theorem bootAgent_goes (s : State) : ∃ t, bootAgent s = .next t := by
  unfold bootAgent
  split <;> exact ⟨_, rfl⟩

/-- Settles O46: every agent's turn goes on, and the host port refuses only an index outside the bank. -/
theorem theBlockNeverStopsInService : Obligations.TheBlockNeverStopsInService := by
  intro s hp hindex
  rw [step_live hp]
  cases hn : s.nextTurn with
  | boot => exact bootAgent_goes _
  | rx =>
    obtain ⟨t, ht, _⟩ := rxAgent_effect (s.setTurns s.turns.tail)
    exact ⟨t, ht⟩
  | tick =>
    obtain ⟨F, out, ht⟩ := timerAgent_effect (s.setTurns s.turns.tail)
    exact ⟨_, ht⟩
  | host op =>
    rcases hostAgent_cases op (s.setTurns s.turns.tail) with ⟨t, ht, _⟩ | ⟨i, hop, hi, _⟩
    · exact ⟨t, ht⟩
    · have inBank : i < s.cfg.bankSize := hindex i (by rcases hop with rfl | rfl <;> simp [hn])
      exact absurd inBank (Nat.not_lt.2 hi)
  | deliver bytes => exact ⟨_, rfl⟩
  | thermal v => exact ⟨_, rfl⟩
  | reset b => exact ⟨_, rfl⟩

/-! ## Control registers and reports -/

/-- `t` has the control registers of `s`, and at most one more report, not a fatal one. -/
structure ControlKept (s t : State) : Prop where
  phase : t.phase = s.phase
  sched : t.sched = s.sched
  nodeAddr : t.nodeAddr = s.nodeAddr
  cfg : t.cfg = s.cfg
  reports : ∃ rs, t.reportOut = s.reportOut ++ rs ∧ QuietReports rs

/-- What a boot step does to the control registers and the reports (R261 to R267): it fails with a fatal report, or the phase
goes on. -/
theorem bootStep_control (k : Fin 5) (s : State) :
    ((k = 2 ∨ k = 3) ∧ ∃ e, e.cls = .fatal ∧ bootStep k s = s.fatal e) ∨
    ((bootStep k s).reportOut = s.reportOut ∧
      ((∃ j : Fin 5, j.val = k.val + 1 ∧ (bootStep k s).phase = .boot j) ∨ (k = 4 ∧ (bootStep k s).phase = .run)) ∧
      ((bootStep k s).sched = s.sched ∨ (k = 3 ∧ (bootStep k s).sched = .armed)) ∧
      (k ≠ 0 → (bootStep k s).nodeAddr = s.nodeAddr)) := by
  match k with
  | 0 => exact .inr ⟨rfl, .inl ⟨1, rfl, rfl⟩, .inl rfl, fun h => absurd rfl h⟩
  | 1 =>
    have hb : bootStep 1 s = (enableAll s).setPhase (.boot 2) := rfl
    rw [hb, enableAll, foldl_setEnable_eq]
    exact .inr ⟨rfl, .inl ⟨2, rfl, rfl⟩, .inl rfl, fun _ => rfl⟩
  | 2 =>
    have hb : bootStep 2 s = boot2 s := rfl
    rw [hb, boot2]
    split_ifs
    · exact .inr ⟨rfl, .inl ⟨3, rfl, rfl⟩, .inl rfl, fun _ => rfl⟩
    · exact .inl ⟨.inl rfl, _, rfl, rfl⟩
  | 3 =>
    have hb : bootStep 3 s = boot3 s := rfl
    rw [hb, boot3]
    split_ifs
    · exact .inr ⟨rfl, .inl ⟨4, rfl, rfl⟩, .inr ⟨rfl, rfl⟩, fun _ => rfl⟩
    · exact .inl ⟨.inr rfl, _, rfl, rfl⟩
  | 4 => exact .inr ⟨rfl, .inr ⟨rfl, rfl⟩, .inl rfl, fun _ => rfl⟩

/-- A step other than a node reset is a boot step, or keeps the control registers. -/
theorem step_control {s t : State} (h : step s = .next t) (hr : ∀ b, s.nextTurn ≠ .reset b) :
    s.phase ≠ .failed ∧
      ((∃ k, s.phase = .boot k ∧ s.nextTurn = .boot ∧ t = bootStep k (s.setTurns s.turns.tail)) ∨ ControlKept s t) := by
  rcases step_next_cases h with ⟨b, hb, _⟩ | ⟨hp, hlive⟩
  · exact absurd hb (hr b)
  refine ⟨hp, ?_⟩
  cases hn : s.nextTurn with rw [hn] at hlive
  | boot =>
    rcases bootAgent_cases hlive with ⟨k, hk, ht⟩ | ⟨_, rfl⟩
    · exact .inl ⟨k, hk, rfl, ht⟩
    · exact .inr ⟨rfl, rfl, rfl, rfl, [], by simp, .inl rfl⟩
  | rx =>
    obtain ⟨t', ht', rest, st, n, F, bank, pwm, reports, rfl, _, quiet⟩ := rxAgent_effect (s.setTurns s.turns.tail)
    cases ht'.symm.trans hlive
    exact .inr ⟨rfl, rfl, rfl, rfl, reports, rfl, quiet⟩
  | tick =>
    obtain ⟨F, out, ht'⟩ := timerAgent_effect (s.setTurns s.turns.tail)
    cases ht'.symm.trans hlive
    exact .inr ⟨rfl, rfl, rfl, rfl, [], by simp, .inl rfl⟩
  | host op =>
    rcases hostAgent_cases op (s.setTurns s.turns.tail) with ⟨t', ht', bank, F, out, rfl, _⟩ | ⟨_, _, _, refused⟩
    · cases ht'.symm.trans hlive
      exact .inr ⟨rfl, rfl, rfl, rfl, [], by simp, .inl rfl⟩
    · cases refused.symm.trans hlive
  | deliver bytes =>
    cases hlive
    exact .inr ⟨rfl, rfl, rfl, rfl, [], by simp, .inl rfl⟩
  | thermal v =>
    cases hlive
    exact .inr ⟨rfl, rfl, rfl, rfl, [], by simp, .inl rfl⟩
  | reset b => exact absurd hn (hr b)

/-- Settles O25: a boot step fails with one report or raises none, and any other turn is quiet. -/
theorem atMostOneReportPerStep : Obligations.AtMostOneReportPerStep := by
  intro s t h hr
  obtain ⟨_, ⟨k, _, _, rfl⟩ | kept⟩ := step_control h hr
  · rcases bootStep_control k (s.setTurns s.turns.tail) with ⟨_, e, _, hb⟩ | ⟨hb, _⟩
    · exact .inr ⟨e, by rw [hb]; rfl⟩
    · exact .inl hb
  · obtain ⟨rs, hrs, rfl | ⟨e, rfl, _⟩⟩ := kept.reports
    · exact .inl (by simpa using hrs)
    · exact .inr ⟨e, hrs⟩

/-- Settles O47: a boot step that fails is the only step with a fatal report, and the only one into `FAILED`. -/
theorem onlyFatalReportsAbortStartUp : Obligations.OnlyFatalReportsAbortStartUp := by
  intro s t h hr
  obtain ⟨hp, ⟨k, _, _, rfl⟩ | kept⟩ := step_control h hr
  · rcases bootStep_control k (s.setTurns s.turns.tail) with ⟨_, e, he, hb⟩ | ⟨hb, hphase, _⟩
    · rw [hb]
      exact iff_of_true rfl ⟨e, he, rfl⟩
    · refine iff_of_false ?_ ?_
      · rcases hphase with ⟨j, _, hj⟩ | ⟨_, hj⟩ <;> simp [hj]
      · rintro ⟨e, _, he⟩
        rw [hb] at he
        simp at he
  · refine iff_of_false (by rwa [kept.phase]) ?_
    rintro ⟨e, he, hout⟩
    obtain ⟨rs, hrs, quiet⟩ := kept.reports
    have single : rs = [e] := List.append_cancel_left (hrs.symm.trans hout)
    rcases quiet with rfl | ⟨e', rfl, he'⟩
    · cases single
    · cases single
      exact he' he

/-- Settles O48: only a boot step writes the phase or the scheduler. -/
theorem phaseAndSchedulerNeverGoBack : Obligations.PhaseAndSchedulerNeverGoBack := by
  intro s t h hr
  obtain ⟨hp, ⟨k, hk, _, rfl⟩ | kept⟩ := step_control h hr
  · have hfrom : ∀ k', s.phase = .boot k' → k' = k := fun k' hk' => by simpa [hk] using hk'.symm
    have notRun : s.phase ≠ .run := by simp [hk]
    rcases bootStep_control k (s.setTurns s.turns.tail) with ⟨h23, e, _, hb⟩ | ⟨_, hphase, hsched, _⟩
    · rw [hb]
      refine ⟨fun run => absurd run notRun, id, fun _ => ?_, .inl, fun _ _ => .inr (.inr (.inr rfl))⟩
      rcases h23 with rfl | rfl
      · exact .inl hk
      · exact .inr hk
    · refine ⟨fun run => absurd run notRun, fun armed => ?_, fun failed => ?_, fun armed => ?_, fun k' hk' => ?_⟩
      · rcases hsched with same | ⟨_, now⟩
        · exact same.trans armed
        · exact now
      · rcases hphase with ⟨j, _, hj⟩ | ⟨_, hj⟩ <;> simp [hj] at failed
      · rcases hsched with same | ⟨rfl, _⟩
        · exact .inl (same.symm.trans armed)
        · exact .inr hk
      · rw [hfrom k' hk']
        rcases hphase with ⟨j, hval, hj⟩ | last
        · exact .inr (.inl ⟨j, hval, hj⟩)
        · exact .inr (.inr (.inl last))
  · rw [kept.phase, kept.sched]
    exact ⟨id, id, fun failed => absurd failed hp, .inl, fun _ => .inl⟩

/-- Settles O52: a reset keeps the configuration, `BOOT(0)` alone writes the address. -/
theorem configurationAndAddressAreFixed : Obligations.ConfigurationAndAddressAreFixed := by
  intro s t h
  by_cases hreset : ∃ b, s.nextTurn = .reset b
  · obtain ⟨b, hb⟩ := hreset
    rw [step_eq_takeTurn, hb, takeTurn_reset] at h
    cases h
    exact ⟨rfl, fun hr => absurd hb (hr b)⟩
  · have hr : ∀ b, s.nextTurn ≠ .reset b := fun b hb => hreset ⟨b, hb⟩
    obtain ⟨_, ⟨k, hk, hn, rfl⟩ | kept⟩ := step_control h hr
    · constructor
      · obtain ⟨_, _, _, _, _, _, _, hb, _⟩ := bootStep_frame k (s.setTurns s.turns.tail)
        rw [hb]
        rfl
      · intro _ notBoot0
        have hk0 : k ≠ 0 := fun h0 => notBoot0 ⟨h0 ▸ hk, hn⟩
        rcases bootStep_control k (s.setTurns s.turns.tail) with ⟨_, e, _, hb⟩ | ⟨_, _, _, haddr⟩
        · rw [hb]
          rfl
        · exact haddr hk0
    · exact ⟨kept.cfg, fun _ _ => kept.nodeAddr⟩

/-! ## Turns that pass, and turns of the environment -/

/-- Settles O45: `takeTurn_failed`. -/
theorem failedNodeStops : Obligations.FailedNodeStops := fun _ hp hr => takeTurn_failed _ _ hp hr

/-- Settles O54: outside the boot phases the BOOT agent has no step. -/
theorem bootTurnsPassInRun : Obligations.BootTurnsPassInRun := by
  intro s hn hp
  rw [step_live (by simp [hp]), hn]
  simp [liveTurn, bootAgent, hp, State.setTurns]

/-- Settles O38: RX and HOST move in `RUN` only. -/
theorem nothingIsAcceptedDuringStartUp : Obligations.NothingIsAcceptedDuringStartUp := by
  intro s k hp hn
  have notRun : s.phase ≠ .run := by simp [hp]
  rw [step_live (by simp [hp])]
  rcases hn with hn | ⟨op, hn⟩ <;> rw [hn]
  · exact rxAgent_of_ne_run _ notRun
  · exact if_neg notRun

/-- Settles O49: these turns write one field of the environment's. -/
theorem deliverAndThermalTurnsWriteOnlyInputs : Obligations.DeliverAndThermalTurnsWriteOnlyInputs := by
  intro s hp
  rw [step_live hp]
  refine ⟨fun bytes hn => ?_, fun v hn => ?_⟩ <;> rw [hn] <;> rfl

/-- Settles O42: the values are those of `State.resetWith`, which a reset turn also writes. -/
theorem resetLeavesTheSpecifiedValues : Obligations.ResetLeavesTheSpecifiedValues := by
  refine ⟨fun c b => ⟨rfl, rfl, rfl, rfl, rfl, rfl, rfl, rfl⟩, fun s b hn => ?_⟩
  rw [step_eq_takeTurn, hn, takeTurn_reset]
  exact ⟨_, rfl, rfl, rfl, rfl, rfl, rfl, rfl, rfl, rfl, rfl, rfl⟩

/-! ## The tick and the host port -/

/-- Settles O35: by whether the tick is enabled, and by the phase. -/
theorem tickSendsOneAnnouncement : Obligations.TickSendsOneAnnouncement := by
  intro s hn version status F
  refine ⟨fun hs hp => ?_, fun hp off => ?_, fun hp => failedNodeStops s hp (by simp [hn])⟩
  · have live : s.phase ≠ .failed := by rcases hp with hp | hp <;> simp [hp]
    have hstatus : s.thermal.code = status := rfl
    have tick := timerAgent_enabled (s := s.setTurns s.turns.tail) hs hp
    rw [step_live live, hn]
    refine tick.trans ?_
    rw [announce_eq, State.setTurns_thermal, hstatus]
    rfl
  · rw [step_live hp, hn]
    exact timerAgent_not_enabled (s := s.setTurns s.turns.tail) off

/-- A host turn in `RUN` is its operation (R35). -/
theorem step_host {s : State} {op : HostOp} (hn : s.nextTurn = .host op) (hp : s.phase = .run) :
    step s = hostOp op (s.setTurns s.turns.tail) := by
  rw [step_live (by simp [hp]), hn]
  exact if_pos hp

/-- Settles O36: in `RUN` by `step_host`, in start-up by `nothingIsAcceptedDuringStartUp`. -/
theorem hostSendsOneFrame : Obligations.HostSendsOneFrame := by
  intro s dest v x y z
  refine ⟨fun hp => ⟨fun hn => ?_, fun hn => ?_, fun hn => ?_⟩, fun k hp hn => ?_⟩
  · exact step_host hn hp
  · exact step_host hn hp
  · rw [step_host hn hp, hostOp, announce_eq]
    rfl
  · exact nothingIsAcceptedDuringStartUp s k hp (.inr (by rcases hn with h | h | h <;> exact ⟨_, h⟩))

/-- `ENABLE(i)` for `true` and `DISABLE(i)` for `false` (R184, R185). -/
theorem hostOp_setEnable (e : Bool) (i : Nat) (s : State) :
    hostOp (if e then .enable i else .disable i) s =
      if i < s.cfg.bankSize then .next (setEnable e s i) else .refused (.hostIndexOutOfRange i) := by
  cases e <;> rfl

/-- Settles O37: `hostOp_setEnable`, on either side of `BANK_SIZE`. -/
theorem enableAndDisableWriteOneBit : Obligations.EnableAndDisableWriteOneBit := by
  intro s i e hn hp
  rw [step_host hn hp, hostOp_setEnable]
  refine ⟨fun a hi ha => ?_, fun hi => if_neg (Nat.not_lt.2 hi)⟩
  have hmod := modify_eq_set_of_getElem? (Actuator.setEn · e) ha
  rw [State.setTurns_cfg, if_pos hi, setEnable_eq, State.setTurns_bank, hmod]
  rfl

end Sys2Proof.Machine
end

section
/-! PROOFS. What reaches the actuator bank, and what a repeated or gated write leaves (43_actuator.md R180 to R187). -/

namespace Sys2Proof.Machine

/-! ## A second write of the same levels -/

/-- Both writes of one command settle an actuator: doing them again changes nothing. -/
theorem Actuator.gatedPair_idem (h l : Byte) (a : Actuator) : (a.gatedPair h l).gatedPair h l = a.gatedPair h l := by
  cases he : a.en <;> simp [Actuator.gatedPair, he]

/-- An actuator that the two writes settled makes no event when they come again. -/
theorem pairEvents_of_settled {bank : List Actuator} {i : Nat} (h l : Byte)
    (settled : ∀ a, bank[i]? = some a → ∃ b : Actuator, a = b.gatedPair h l) : pairEvents h l i bank = [] := by
  cases hb : bank[i]? with
  | none => simp [pairEvents, chanEvents, hb]
  | some a =>
    obtain ⟨b, rfl⟩ := settled a hb
    rw [pairEvents_of_getElem? h l hb]
    cases he : b.en <;> simp [Actuator.gatedPair, he]

/-- `ACT_SET` again with the same motion does nothing (R187). -/
theorem actSet_actSet {i : Nat} {v w : Half} (hm : motion v = motion w) (s : State) :
    actSet i w (actSet i v s) = actSet i v s := by
  have bank : (s.bank.modify i (Actuator.gatedPair (motion w).1 (motion w).2)).modify i
      (Actuator.gatedPair (motion w).1 (motion w).2) = s.bank.modify i (Actuator.gatedPair (motion w).1 (motion w).2) := by
    apply List.ext_getElem?
    intro j
    simp only [List.getElem?_modify]
    by_cases hij : i = j
    · cases s.bank[j]? <;> simp [hij, Actuator.gatedPair_idem]
    · simp [hij]
  have events : pairEvents (motion w).1 (motion w).2 i
      (s.bank.modify i (Actuator.gatedPair (motion w).1 (motion w).2)) = [] := by
    refine pairEvents_of_settled _ _ fun a ha => ?_
    obtain ⟨b, -, rfl⟩ := by simpa using ha
    exact ⟨b, rfl⟩
  simp only [actSet_eq, hm, bank, events, List.append_nil]

/-- Settles O32: `actSet_actSet`. -/
theorem repeatedMotionWritesNothing : Obligations.RepeatedMotionWritesNothing := by
  intro s t d e v w id hid hm h
  rw [exec_solenoid_of_id_lt d v hid] at h
  cases h
  have hid' : id.toNat < (actSet id.toNat v s).cfg.bankSize := by
    rw [actSet_eq]
    exact hid
  rw [exec_solenoid_of_id_lt e w hid', actSet_actSet hm]

/-- A second halt does nothing, whatever the length of the bank (R278). -/
theorem haltAll_haltAll (s : State) : haltAll (haltAll s) = haltAll s := by
  rw [haltAll, haltAll, foldl_haltOne_eq, foldl_haltOne_eq]
  have bank : ∀ n, (s.bank.mapIdx fun i a => if i < n then a.gatedPair 0 0 else a).mapIdx
      (fun i a => if i < n then a.gatedPair 0 0 else a) = s.bank.mapIdx fun i a => if i < n then a.gatedPair 0 0 else a := by
    intro n
    apply List.ext_getElem?
    intro j
    simp only [List.getElem?_mapIdx]
    cases s.bank[j]? with
    | none => rfl
    | some a => by_cases hj : j < n <;> simp [hj, Actuator.gatedPair_idem]
  have events : ∀ n, ((List.range n).flatMap fun i =>
      pairEvents 0 0 i (s.bank.mapIdx fun i a => if i < n then a.gatedPair 0 0 else a)) = [] := by
    intro n
    refine List.flatMap_eq_nil_iff.2 fun i hi => pairEvents_of_settled 0 0 fun a ha => ?_
    rw [List.mem_range] at hi
    obtain ⟨b, -, rfl⟩ := by simpa [hi] using ha
    exact ⟨b, rfl⟩
  simp only [bank, events, List.append_nil]

/-- Settles O33: `haltAll_haltAll`. -/
theorem repeatedHaltWritesNothing : Obligations.RepeatedHaltWritesNothing := by
  intro s t d e h
  cases h
  exact congrArg Host.Outcome.next (haltAll_haltAll s)

/-! ## A disabled actuator -/

/-- No command touches a disabled actuator (R180). -/
theorem exec_keeps_disabled {s t : State} {i : Nat} {a : Actuator} (c : Instr) (ha : s.bank[i]? = some a)
    (he : a.en = false) (h : exec c s = .next t) : t.bank[i]? = some a := by
  have gate : ∀ h l, a.gatedPair h l = a := fun h l => Actuator.gatedPair_of_not_en h l he
  rcases exec_cases c s with ⟨e, hc, _⟩ | hc | ⟨id, v, _, hc⟩ <;> cases hc.symm.trans h
  · exact ha
  · simp [haltAll, foldl_haltOne_eq, ha, gate]
  · by_cases hid : id.toNat = i <;> simp [actSet_eq, ha, gate, hid]

/-- Enabling an enabled actuator after disabling it restores the bank (R185). -/
theorem setEnable_setEnable {s : State} {i : Nat} {a : Actuator} (ha : s.bank[i]? = some a) (he : a.en = true) :
    setEnable true (setEnable false s i) i = s := by
  have back : (a.setEn false).setEn true = a := by
    cases a
    cases he
    rfl
  have bank : (s.bank.modify i (·.setEn false)).modify i (·.setEn true) = s.bank := by
    apply List.ext_getElem?
    intro j
    simp only [List.getElem?_modify]
    by_cases hij : i = j
    · subst hij
      simp [ha, back]
    · simp [hij]
  rw [setEnable_eq, setEnable_eq, bank]

section
variable (e : Bool) (s : State) (i : Nat)

@[simp] theorem setEnable_phase : (setEnable e s i).phase = s.phase := by rw [setEnable_eq]

@[simp] theorem setEnable_cfg : (setEnable e s i).cfg = s.cfg := by rw [setEnable_eq]

@[simp] theorem setEnable_turns : (setEnable e s i).turns = s.turns := by rw [setEnable_eq]

theorem setEnable_setTurns (ts ts' : List Turn) :
    (setEnable e (s.setTurns ts) i).setTurns ts' = setEnable e (s.setTurns ts') i := by
  rw [setEnable_eq, setEnable_eq]
  rfl

end

/-- Settles O39: the two parts are `exec_keeps_disabled` and `setEnable_setEnable`. -/
theorem disabledActuatorKeepsItsLevels : Obligations.DisabledActuatorKeepsItsLevels := by
  refine ⟨fun s i a c t ha he h => exec_keeps_disabled c ha he h, fun s i a ts hp hi ha he hturns => ?_⟩
  have first : step s = .next (setEnable false (s.setTurns (.host (.enable i) :: ts)) i) := by
    rw [step_host (nextTurn_cons s _ _ hturns) hp, hturns]
    exact if_pos hi
  have second : step (setEnable false (s.setTurns (.host (.enable i) :: ts)) i) = .next (s.setTurns ts) := by
    rw [step_host (nextTurn_cons _ _ ts (setEnable_turns _ _ _)) (by simp [hp]), setEnable_turns, setEnable_setTurns,
      ← setEnable_setEnable (s := s.setTurns ts) ha he]
    exact if_pos (by simpa using hi)
  rw [run_succ_of_next _ _ _ first, run_succ_of_next _ _ _ second]
  rfl

/-! ## Which step moves the bank -/

/-- A command of a type other than `SolenoidControl` is a report. -/
theorem exec_of_typeCode_ne {i : Instr} (h : i.typeCode ≠ 0x11#8) (s : State) : ∃ e, exec i s = .next (s.report e) := by
  cases i with
  | halt => exact absurd rfl h
  | solenoid => exact absurd rfl h
  | _ => exact ⟨_, rfl⟩

/-- So is a frame of another type. -/
theorem dispatch_of_ptype_ne {F : Frame} (h : Frame.ptype F ≠ 0x11#8) (s : State) :
    ∃ e, dispatch F s = .next (s.report e) := by
  rcases dispatch_cases F s with ⟨i, hdec, hrun⟩ | ⟨_, _, hrun⟩
  · obtain ⟨_, _, htype, _⟩ := decode_ok_cases hdec
    obtain ⟨e, he⟩ := exec_of_typeCode_ne (i := i) (by rwa [← htype]) s
    exact ⟨e, hrun.trans he⟩
  · exact ⟨_, hrun⟩

/-- `t` has the levels and the write events of `s`. -/
def LevelsKept (s t : State) : Prop :=
  t.pwmOut = s.pwmOut ∧ t.bank.map (fun a => (a.hi, a.lo)) = s.bank.map (fun a => (a.hi, a.lo))

/-- A candidate that is rejected, or of another type, leaves the levels alone (R143, R150). -/
theorem finishCandidate_levels {F : Frame} {s t : State} (h : finishCandidate F s = .next t) :
    LevelsKept s t ∨ (rejection s.cfg.protoVersion s.nodeAddr F = none ∧ Frame.ptype F = 0x11#8) := by
  rcases finishCandidate_cases F s with ⟨e, _, hf⟩ | ⟨accepted, hf⟩
  · cases hf.symm.trans h
    exact .inl ⟨rfl, rfl⟩
  · by_cases ht : Frame.ptype F = 0x11#8
    · exact .inr ⟨accepted, ht⟩
    · obtain ⟨e, he⟩ := dispatch_of_ptype_ne ht s
      cases (hf.trans he).symm.trans h
      exact .inl ⟨rfl, rfl⟩

/-- An RX step that moves a level takes the last byte of an accepted frame of type `0x11` (R150). -/
theorem rxAgent_levels {s t : State} (h : rxAgent s = .next t) :
    LevelsKept s t ∨ (s.phase = .run ∧ s.rxState = .collect ∧ s.rxCount = 15 ∧ ∃ b rest, s.rxIn = b :: rest ∧
      rejection s.cfg.protoVersion s.nodeAddr (s.rxBuf.set 15 b) = none ∧ Frame.ptype (s.rxBuf.set 15 b) = 0x11#8) := by
  by_cases hp : s.phase = .run
  swap
  · cases (rxAgent_of_ne_run s hp).symm.trans h
    exact .inl ⟨rfl, rfl⟩
  cases hi : s.rxIn with
  | nil =>
    cases (rxAgent_nil s hi).symm.trans h
    exact .inl ⟨rfl, rfl⟩
  | cons b rest =>
    rw [rxAgent_cons s b rest hp hi] at h
    cases hr : s.rxState with
    | scan =>
      rw [rxByte_scan b (s.setRxIn rest) hr] at h
      cases h
      by_cases hb : b = magic0
      · rw [scanByte_magic0 b _ hb]
        exact .inl ⟨rfl, rfl⟩
      · rw [scanByte_of_ne_magic0 b _ hb]
        exact .inl ⟨rfl, rfl⟩
    | collect =>
      by_cases hn : s.rxCount = 15
      · rw [rxByte_last b (s.setRxIn rest) hr hn] at h
        rcases finishCandidate_levels h with kept | ⟨accepted, ht⟩
        · exact .inl kept
        · exact .inr ⟨hp, rfl, hn, b, rest, rfl, accepted, ht⟩
      · rw [rxByte_collect b (s.setRxIn rest) hr hn] at h
        cases h
        exact .inl ⟨rfl, rfl⟩

/-- A step other than RX's and a node reset keeps the levels and the write events. -/
theorem step_levels {s t : State} (h : step s = .next t) (hr : ∀ b, s.nextTurn ≠ .reset b) (hrx : s.nextTurn ≠ .rx) :
    LevelsKept s t := by
  rcases step_next_cases h with ⟨b, hb, _⟩ | ⟨_, hlive⟩
  · exact absurd hb (hr b)
  obtain ⟨_, tick, host, boot⟩ := agentsWriteTheirOwnState s t h
  cases hn : s.nextTurn with
  | boot =>
    obtain ⟨_, addr, bank, sched, phase, F, out, reports, rfl, levels⟩ := boot hn
    exact ⟨rfl, levels⟩
  | rx => exact absurd hn hrx
  | tick =>
    obtain ⟨F, out, rfl⟩ := tick hn
    exact ⟨rfl, rfl⟩
  | host op =>
    obtain ⟨bank, F, out, rfl, levels⟩ := host op hn
    exact ⟨rfl, levels⟩
  | deliver bytes =>
    rw [hn] at hlive
    cases hlive
    exact ⟨rfl, rfl⟩
  | thermal v =>
    rw [hn] at hlive
    cases hlive
    exact ⟨rfl, rfl⟩
  | reset b => exact absurd hn (hr b)

/-- Settles O24: `step_levels` for every other turn, `rxAgent_levels` for RX's. -/
theorem onlyAcceptedSolenoidFramesMoveTheBank : Obligations.OnlyAcceptedSolenoidFramesMoveTheBank := by
  intro s t h hr moved
  have notKept : ¬ LevelsKept s t := fun ⟨pwm, levels⟩ => moved.elim (· pwm) (· levels)
  have hrx : s.nextTurn = .rx := by
    by_contra hn
    exact notKept (step_levels h hr hn)
  rcases step_next_cases h with ⟨b, hb, _⟩ | ⟨_, hlive⟩
  · exact absurd hb (hr b)
  rw [hrx] at hlive
  rcases rxAgent_levels hlive with kept | ⟨hp, hstate, hcount, b, rest, hi, accepted, ht⟩
  · exact absurd kept notKept
  · obtain ⟨valid, addressed⟩ := (rejection_none_iff _ _ _).1 accepted
    exact ⟨hrx, hp, hstate, hcount, b, rest, hi, valid, (accepts_iff _ _).1 addressed, ht⟩

/-! ## A tick and an RX step -/

/-- `s` with another transmit side and schedule: what RX neither reads nor writes. -/
def State.withTx (F : Frame) (out : List Byte) (ts : List Turn) (s : State) : State :=
  { s with txBuf := F, txOut := out, turns := ts }

/-- The outcome with `f` done to the next state. -/
def mapNext (f : State → State) : Host.Outcome State Fault Refusal → Host.Outcome State Fault Refusal
  | .next s => .next (f s)
  | .fault r => .fault r
  | .refused r => .refused r

section
variable (F : Frame) (out : List Byte) (ts : List Turn)

/-- A command neither reads nor writes the transmit side (R74). -/
theorem exec_withTx (i : Instr) (s : State) : exec i (s.withTx F out ts) = mapNext (State.withTx F out ts) (exec i s) := by
  cases i with
  | halt d =>
    have run : ∀ s, exec (.halt d) s = .next (haltAll s) := fun _ => rfl
    rw [run, run, haltAll, haltAll, foldl_haltOne_eq, foldl_haltOne_eq]
    rfl
  | solenoid d id v =>
    by_cases hid : id.toNat < s.cfg.bankSize
    · have hid' : id.toNat < (s.withTx F out ts).cfg.bankSize := hid
      rw [exec_solenoid_of_id_lt d v hid, exec_solenoid_of_id_lt d v hid', actSet_eq, actSet_eq]
      rfl
    · have hid' : (s.withTx F out ts).cfg.bankSize ≤ id.toNat := Nat.not_lt.1 hid
      rw [exec_solenoid_of_id_ge d v (Nat.not_lt.1 hid), exec_solenoid_of_id_ge d v hid']
      rfl
  | _ => rfl

theorem dispatch_withTx (B : Frame) (s : State) :
    dispatch B (s.withTx F out ts) = mapNext (State.withTx F out ts) (dispatch B s) := by
  unfold dispatch
  cases decode B with
  | ok i => exact exec_withTx F out ts i s
  | error r => rfl

theorem finishCandidate_withTx (B : Frame) (s : State) :
    finishCandidate B (s.withTx F out ts) = mapNext (State.withTx F out ts) (finishCandidate B s) := by
  rcases finishCandidate_cases B s with ⟨e, he, h⟩ | ⟨he, h⟩
  · rw [h, finishCandidate_of_rejection (s := s.withTx F out ts) he]
    rfl
  · rw [h, finishCandidate_of_no_rejection (s := s.withTx F out ts) he, dispatch_withTx]

/-- Neither does the RX step (R74). -/
theorem rxAgent_withTx (s : State) : rxAgent (s.withTx F out ts) = mapNext (State.withTx F out ts) (rxAgent s) := by
  by_cases hp : s.phase = .run
  swap
  · rw [rxAgent_of_ne_run s hp, rxAgent_of_ne_run (s.withTx F out ts) hp]
    rfl
  cases hi : s.rxIn with
  | nil =>
    rw [rxAgent_nil s hi, rxAgent_nil (s.withTx F out ts) hi]
    rfl
  | cons b rest =>
    rw [rxAgent_cons s b rest hp hi, rxAgent_cons (s.withTx F out ts) b rest hp hi]
    have swap : (s.withTx F out ts).setRxIn rest = (s.setRxIn rest).withTx F out ts := rfl
    rw [swap]
    generalize s.setRxIn rest = u
    cases hr : u.rxState with
    | scan =>
      rw [rxByte_scan b u hr, rxByte_scan b (u.withTx F out ts) hr]
      by_cases hb : b = magic0
      · rw [scanByte_magic0 b u hb, scanByte_magic0 b _ hb]
        rfl
      · rw [scanByte_of_ne_magic0 b u hb, scanByte_of_ne_magic0 b _ hb]
        rfl
    | collect =>
      by_cases hn : u.rxCount = 15
      · rw [rxByte_last b u hr hn, rxByte_last b (u.withTx F out ts) hr hn]
        exact finishCandidate_withTx F out ts (u.rxBuf.set 15 b) ((u.setRxBuf (u.rxBuf.set 15 b)).setRxPos .scan 0)
      · rw [rxByte_collect b u hr hn, rxByte_collect b (u.withTx F out ts) hr hn]
        rfl

end

/-- `t` agrees with `s` in all that a tick reads (R161, R166). -/
structure SameTick (s t : State) : Prop where
  sched : t.sched = s.sched
  phase : t.phase = s.phase
  cfg : t.cfg = s.cfg
  nodeAddr : t.nodeAddr = s.nodeAddr
  thermal : t.thermal = s.thermal
  txBuf : t.txBuf = s.txBuf
  txOut : t.txOut = s.txOut

/-- Then it writes the same transmit side in both. -/
theorem timerAgent_sameTick (s : State) :
    ∃ F out, ∀ t, SameTick s t → timerAgent t = .next (t.withTx F out t.turns) := by
  by_cases enabled : s.sched = .armed ∧ (s.phase = .boot 4 ∨ s.phase = .run)
  · refine ⟨(announce s).txBuf, (announce s).txOut, fun t same => ?_⟩
    rw [← same.sched, ← same.phase] at enabled
    rw [timerAgent_enabled enabled.1 enabled.2, announce_eq, announce_eq]
    simp only [State.withTx, same.cfg, same.nodeAddr, same.thermal, same.txOut]
  · refine ⟨s.txBuf, s.txOut, fun t same => ?_⟩
    rw [← same.sched, ← same.phase] at enabled
    rw [timerAgent_not_enabled enabled, ← same.txBuf, ← same.txOut]
    rfl

/-- An RX turn changes nothing that a tick reads. -/
theorem RxEffect.sameTick {s t : State} (h : RxEffect s t) : SameTick s t := by
  obtain ⟨_, _, _, _, _, _, _, rfl, _⟩ := h
  exact ⟨rfl, rfl, rfl, rfl, rfl, rfl, rfl⟩

/-- Settles O40: RX does not see what the tick writes (`rxAgent_withTx`), nor the tick what RX writes. -/
theorem tickAndRxStepCommute : Obligations.TickAndRxStepCommute := by
  intro s ts hp
  obtain ⟨t, ht, effect⟩ := rxAgent_effect s
  obtain ⟨F, out, tick⟩ := timerAgent_sameTick s
  have same := effect.sameTick
  have hp' : t.phase = .run := same.phase.trans hp
  have rx : ∀ F out ts, rxAgent (s.withTx F out ts) = .next (t.withTx F out ts) := fun F out ts => by
    rw [rxAgent_withTx, ht]
    rfl
  have rxFirst : step { s with turns := .rx :: .tick :: ts } = .next (t.withTx s.txBuf s.txOut (.tick :: ts)) :=
    (step_live (by simp [hp])).trans (rx s.txBuf s.txOut (.tick :: ts))
  have thenTick : step (t.withTx s.txBuf s.txOut (.tick :: ts)) = .next (t.withTx F out ts) :=
    (step_live (by simp [State.withTx, hp'])).trans
      (tick (t.withTx s.txBuf s.txOut ts) ⟨same.sched, same.phase, same.cfg, same.nodeAddr, same.thermal, rfl, rfl⟩)
  have tickFirst : step { s with turns := .tick :: .rx :: ts } = .next (s.withTx F out (.rx :: ts)) :=
    (step_live (by simp [hp])).trans (tick (s.setTurns (.rx :: ts)) ⟨rfl, rfl, rfl, rfl, rfl, rfl, rfl⟩)
  have thenRx : step (s.withTx F out (.rx :: ts)) = .next (t.withTx F out ts) :=
    (step_live (by simp [State.withTx, hp])).trans (rx F out ts)
  rw [run_succ_of_next _ _ _ rxFirst, run_succ_of_next _ _ _ thenTick, run_succ_of_next _ _ _ tickFirst,
    run_succ_of_next _ _ _ thenRx]

end Sys2Proof.Machine
end

section
/-! PROOFS. The invariant of the block (10_state.md R22 to R24, 20_memory.md R75): reset meets it, and every turn keeps it. -/

namespace Sys2Proof.Machine

/-! ## The parts of the invariant that depend on a mode -/

theorem rxCoherent_scan {s : State} (h : s.rxState = .scan) : s.RxCoherent ↔ s.rxCount = 0 := by
  unfold State.RxCoherent
  rw [h]

theorem rxCoherent_collect {s : State} (h : s.rxState = .collect) :
    s.RxCoherent ↔ s.rxCount ≠ 0 ∧ s.rxBuf[0] = magic0 := by
  unfold State.RxCoherent
  rw [h]

theorem phaseCoherent_boot {s : State} {k : Fin 5} (h : s.phase = .boot k) :
    s.PhaseCoherent ↔ s.Untouched ∧ (s.sched = .armed ↔ k = 4) ∧ (k ≠ 4 → s.txOut = []) ∧ s.reportOut = []
      ∧ ∀ a ∈ s.bank, a.en = decide (2 ≤ k.val) := by
  unfold State.PhaseCoherent
  rw [h]

theorem phaseCoherent_run {s : State} (h : s.phase = .run) : s.PhaseCoherent ↔ s.sched = .armed ∧ s.txOut ≠ [] := by
  unfold State.PhaseCoherent
  rw [h]

/-- In `RUN` the phase asks only for the scheduler and the wire. -/
theorem phaseCoherent_of_run {s t : State} (h : s.PhaseCoherent) (hp : s.phase = .run) (hp' : t.phase = .run)
    (sched : t.sched = s.sched) (tx : t.txOut = s.txOut) : t.PhaseCoherent := by
  rw [phaseCoherent_run hp', sched, tx]
  exact (phaseCoherent_run hp).1 h

theorem phaseCoherent_failed {s : State} (h : s.phase = .failed) :
    s.PhaseCoherent ↔ s.Untouched ∧ s.sched = .idle ∧ s.txOut = [] ∧ (∀ a ∈ s.bank, a.en = true)
      ∧ (s.reportOut = [.fatalChannelInit] ∨ s.reportOut = [.fatalTimerArm]) := by
  unfold State.PhaseCoherent
  rw [h]

/-! ## Reset -/

/-- Settles O50: every actuator is `Actuator.atReset`, and nothing has been written, sent or reported. -/
theorem resetMeetsTheInvariant : Obligations.ResetMeetsTheInvariant := by
  intro c b valid
  have off : ∀ a ∈ (State.resetWith c b).bank, a = Actuator.atReset := fun a ha => List.eq_of_mem_replicate ha
  have zero : ∀ a ∈ (State.resetWith c b).bank, a.hi = 0 ∧ a.lo = 0 := fun a ha => by
    rw [off a ha]
    exact ⟨rfl, rfl⟩
  refine ⟨⟨valid, List.length_replicate⟩, fun a ha => .inl (zero a ha).1, (rxCoherent_scan rfl).2 rfl, ?_,
    ⟨[], rfl, fun _ h => absurd h List.not_mem_nil⟩, fun i a ha ch => ?_⟩
  · refine (phaseCoherent_boot rfl).2 ⟨⟨rfl, rfl, zero⟩, by simp, fun _ => rfl, rfl, fun a ha => ?_⟩
    rw [off a ha]
    rfl
  · obtain ⟨hi, lo⟩ := zero a (List.mem_of_getElem? ha)
    cases ch with
    | hi => exact hi
    | lo => exact lo

/-- A reset of the node meets it too: the inputs and the schedule it keeps are not in the invariant (R260). -/
theorem nodeReset_inv {s : State} (b : BootInputs) (h : s.Inv) : (nodeReset b s).Inv := by
  obtain ⟨bankSized, exclusive, rx, phase, frames, tracked⟩ := resetMeetsTheInvariant s.cfg b h.bankSized.1
  exact ⟨bankSized, exclusive, rx, phase, frames, tracked⟩

/-! ## Writes outside the block's bank and wire -/

/-- The schedule, the unread bytes and the thermal status are not in the invariant. -/
theorem State.Inv.setInputs {s : State} (h : s.Inv) (ts : List Turn) (bs : List Byte) (v : Thermal) :
    (((s.setTurns ts).setRxIn bs).setThermal v).Inv :=
  ⟨h.bankSized, h.levelsExclusive, h.rxCoherent, h.phaseCoherent, h.wholeFrames, h.levelsTracked⟩

/-- A boot step that writes control registers and reports keeps the invariant when the new phase is coherent. -/
theorem State.Inv.setControl {s : State} (h : s.Inv) (addr : Half) (sched : SchedState) (phase : Phase) (reports : List Report)
    (coherent : { s with nodeAddr := addr, sched := sched, phase := phase, reportOut := reports }.PhaseCoherent) :
    { s with nodeAddr := addr, sched := sched, phase := phase, reportOut := reports }.Inv :=
  ⟨h.bankSized, h.levelsExclusive, h.rxCoherent, coherent, h.wholeFrames, h.levelsTracked⟩

/-- In `RUN` a coherent receive position is all that the invariant asks of the receive side. -/
theorem State.Inv.setRx {s : State} (h : s.Inv) (hp : s.phase = .run) (st : RxState) (n : Fin 16) (F : Frame)
    (rx : { s with rxState := st, rxCount := n, rxBuf := F }.RxCoherent) :
    { s with rxState := st, rxCount := n, rxBuf := F }.Inv :=
  ⟨h.bankSized, h.levelsExclusive, rx, phaseCoherent_of_run h.phaseCoherent hp hp rfl rfl, h.wholeFrames,
    h.levelsTracked⟩

/-! ## Sends -/

/-- A whole frame of the block's own after whole frames (R75). -/
theorem wholeFrames_append {s : State} {F : Frame} (h : s.WholeFrames) (own : OwnFrame s.cfg F) :
    ∃ Fs : List Frame, s.txOut ++ Frame.bytes F = Fs.flatMap Frame.bytes ∧ ∀ G ∈ Fs, OwnFrame s.cfg G := by
  obtain ⟨Fs, hout, hown⟩ := h
  refine ⟨Fs ++ [F], by simp [hout], fun G hG => ?_⟩
  rcases List.mem_append.1 hG with hG | hG
  · exact hown G hG
  · rwa [List.mem_singleton.1 hG]

/-- A frame is not empty. -/
theorem append_bytes_ne_nil (out : List Byte) (F : Frame) : out ++ Frame.bytes F ≠ [] := by
  intro h
  have := congrArg List.length h
  simp [Frame.bytes] at this

/-- A send in `BOOT(4)` or `RUN` keeps the invariant (R164). -/
theorem State.Inv.send {s : State} (h : s.Inv) (hp : s.phase = .boot 4 ∨ s.phase = .run) (t : Byte) (d : Half)
    (p : List Byte) (hlen : p.length ≤ 8) (ht : t = 0x10#8 ∧ d = broadcast ∨ t = 0x12#8 ∨ t = 0x13#8) :
    (send t d p s).Inv := by
  have own : OwnFrame s.cfg (build s.cfg.protoVersion t d p) := ⟨t, d, p, rfl, hlen, ht⟩
  refine ⟨h.bankSized, h.levelsExclusive, h.rxCoherent, ?_, wholeFrames_append h.wholeFrames own, h.levelsTracked⟩
  rcases hp with hp | hp
  · obtain ⟨untouched, armed, _, reports, enables⟩ := (phaseCoherent_boot hp).1 h.phaseCoherent
    exact (phaseCoherent_boot (k := 4) (s := Machine.send t d p s) hp).2
      ⟨untouched, armed, fun h4 => absurd rfl h4, reports, enables⟩
  · exact (phaseCoherent_run (s := Machine.send t d p s) hp).2
      ⟨((phaseCoherent_run hp).1 h.phaseCoherent).1, append_bytes_ne_nil _ _⟩

theorem State.Inv.announce {s : State} (h : s.Inv) (hp : s.phase = .boot 4 ∨ s.phase = .run) : (announce s).Inv :=
  h.send hp _ _ _ (by simp [deviceInfoPayload]) (.inl ⟨rfl, rfl⟩)

/-! ## Levels -/

/-- The two parts of the invariant about levels: exclusive (R23), and the last ones written (R22). -/
def LevelsCoherent (s : State) : Prop := s.LevelsExclusive ∧ s.LevelsTracked

/-- One more event (R38). -/
theorem lastLevel_append_one (ws : List PwmWrite) (w : PwmWrite) (i : Nat) (ch : Channel) :
    lastLevel (ws ++ [w]) i ch = if w.index = i ∧ w.channel = ch then w.level else lastLevel ws i ch := by
  simp [lastLevel]

/-- A channel write moves the level and the history together (R22, R180). -/
theorem chanWrite_tracked {s : State} (h : s.LevelsTracked) (i : Nat) (ch : Channel) (v : Byte) :
    (chanWrite i ch v s).LevelsTracked := by
  cases hb : s.bank[i]? with
  | none =>
    have same : chanWrite i ch v s = s := by simp [chanWrite, hb]
    rwa [same]
  | some b =>
    by_cases hskip : b.en = false ∨ b.level ch = v
    · have same : chanWrite i ch v s = s := by
        rcases hskip with he | hv
        · simp [chanWrite, hb, he]
        · simp [chanWrite, hb, hv]
      rwa [same]
    · rw [not_or] at hskip
      have written : chanWrite i ch v s = (s.setBank (s.bank.set i (b.setLevel ch v))).pwmWrite ⟨i, ch, v⟩ := by
        simp [chanWrite, hb, hskip.1, hskip.2]
      rw [written]
      intro j a ha c
      show a.level c = lastLevel (s.pwmOut ++ [⟨i, ch, v⟩]) j c
      rw [lastLevel_append_one]
      have ha : (s.bank.set i (b.setLevel ch v))[j]? = some a := ha
      by_cases hij : i = j
      · subst hij
        rw [List.getElem?_set_self (List.getElem?_eq_some_iff.1 hb).1] at ha
        cases ha
        by_cases hc : ch = c
        · subst hc
          simp
        · rw [Actuator.level_setLevel_of_ne b v (Ne.symm hc), h i b hb c]
          simp [hc]
      · rw [List.getElem?_set_ne hij] at ha
        simp [hij, h j a ha c]

/-- A property of every actuator that `f` keeps is kept where `f` is applied at one index. -/
theorem forall_mem_modify {P : Actuator → Prop} {f : Actuator → Actuator} (hf : ∀ a, P a → P (f a)) {bank : List Actuator}
    (h : ∀ a ∈ bank, P a) (i : Nat) : ∀ a ∈ bank.modify i f, P a := by
  intro a ha
  obtain ⟨j, hj⟩ := List.getElem?_of_mem ha
  rw [List.getElem?_modify] at hj
  obtain ⟨b, hb, rfl⟩ := Option.map_eq_some_iff.1 hj
  have hPb := h b (List.mem_of_getElem? hb)
  by_cases hij : i = j
  · simpa [hij] using hf b hPb
  · simpa [hij] using hPb

/-- Both channel writes of one command, one of them to 0, keep the levels coherent. -/
theorem chanWrite_pair_levels {s : State} (h : LevelsCoherent s) (i : Nat) {x y : Byte} (hxy : x = 0 ∨ y = 0) :
    LevelsCoherent (chanWrite i .lo y (chanWrite i .hi x s)) := by
  refine ⟨?_, chanWrite_tracked (chanWrite_tracked h.2 i .hi x) i .lo y⟩
  rw [chanWrite_pair_eq]
  refine forall_mem_modify (P := fun a => a.hi = 0 ∨ a.lo = 0) (fun a ha => ?_) h.1 i
  cases he : a.en with
  | true => simpa [Actuator.gatedPair_of_en x y he] using hxy
  | false => rwa [Actuator.gatedPair_of_not_en x y he]

/-- A motion drives one channel at most (R181). -/
theorem motion_exclusive (v : Half) : (motion v).1 = 0 ∨ (motion v).2 = 0 := by
  rcases lt_trichotomy (s16 v) 0 with neg | zero | pos
  · exact .inl (by rw [motion_of_neg neg])
  · exact .inl (by rw [motion_of_zero zero])
  · exact .inr (by rw [motion_of_pos pos])

/-- Halting actuators one after another keeps the levels coherent. -/
theorem foldl_haltOne_levels {s : State} (h : LevelsCoherent s) (is : List Nat) : LevelsCoherent (is.foldl haltOne s) := by
  induction is generalizing s with
  | nil => exact h
  | cons i is ih => exact ih (chanWrite_pair_levels h i (.inl rfl))

/-- So does every command. -/
theorem exec_levels {s t : State} (h : LevelsCoherent s) {i : Instr} (ht : exec i s = .next t) : LevelsCoherent t := by
  rcases exec_cases i s with ⟨e, hi, _⟩ | hi | ⟨id, v, _, hi⟩ <;> cases hi.symm.trans ht
  · exact h
  · exact foldl_haltOne_levels h _
  · exact chanWrite_pair_levels h _ (motion_exclusive v)

/-- And every completed candidate. -/
theorem finishCandidate_coherent {s t : State} (h : LevelsCoherent s) {F : Frame} (ht : finishCandidate F s = .next t) :
    LevelsCoherent t := by
  rcases finishCandidate_cases F s with ⟨e, _, hf⟩ | ⟨_, hf⟩
  · cases hf.symm.trans ht
    exact h
  rcases dispatch_cases F s with ⟨i, _, hd⟩ | ⟨_, _, hd⟩
  · exact exec_levels h (hd.symm.trans (hf.symm.trans ht))
  · cases (hf.trans hd).symm.trans ht
    exact h

/-- In `RUN` the effect of a command with coherent levels keeps the invariant. -/
theorem State.Inv.commandEffect {s t : State} (h : s.Inv) (hp : s.phase = .run) (effect : CommandEffect s t)
    (levels : LevelsCoherent t) : t.Inv := by
  obtain ⟨bank, pwm, reports, rfl, en, _⟩ := effect
  have length : bank.length = s.bank.length := by simpa using congrArg List.length en
  exact ⟨⟨h.bankSized.1, length.trans h.bankSized.2⟩, levels.1, h.rxCoherent,
    phaseCoherent_of_run h.phaseCoherent hp hp rfl rfl, h.wholeFrames, levels.2⟩

/-! ## The agents -/

/-- The RX step keeps the invariant: the position it leaves is coherent, and what it dispatches keeps the levels coherent. -/
theorem rxByte_inv {s t : State} (h : s.Inv) (hp : s.phase = .run) {b : Byte} (ht : rxByte b s = .next t) : t.Inv := by
  cases hr : s.rxState with
  | scan =>
    rw [rxByte_scan b s hr] at ht
    cases ht
    by_cases hb : b = magic0
    · rw [scanByte_magic0 b s hb]
      refine h.setRx hp .collect 1 (s.rxBuf.set 0 b) ((rxCoherent_collect rfl).2 ⟨show (1 : Fin 16) ≠ 0 by decide, ?_⟩)
      simpa using hb
    · rwa [scanByte_of_ne_magic0 b s hb]
  | collect =>
    obtain ⟨count, first⟩ := (rxCoherent_collect hr).1 h.rxCoherent
    by_cases hn : s.rxCount = 15
    · rw [rxByte_last b s hr hn] at ht
      have scanning : ((s.setRxBuf (s.rxBuf.set 15 b)).setRxPos .scan 0).Inv :=
        h.setRx hp .scan 0 (s.rxBuf.set 15 b) ((rxCoherent_scan rfl).2 rfl)
      obtain ⟨t', ht', effect⟩ := finishCandidate_effect (s.rxBuf.set 15 b)
        ((s.setRxBuf (s.rxBuf.set 15 b)).setRxPos .scan 0)
      cases ht'.symm.trans ht
      exact scanning.commandEffect hp effect
        (finishCandidate_coherent ⟨scanning.levelsExclusive, scanning.levelsTracked⟩ ht')
    · rw [rxByte_collect b s hr hn] at ht
      cases ht
      refine h.setRx hp .collect (s.rxCount + 1) (s.rxBuf.set s.rxCount.val b) ((rxCoherent_collect rfl).2 ⟨?_, ?_⟩)
      · show s.rxCount + 1 ≠ 0
        omega
      · have hne : s.rxCount.val ≠ 0 := fun h0 => count (Fin.ext h0)
        simpa [hne] using first

theorem rxAgent_inv {s t : State} (h : s.Inv) (ht : rxAgent s = .next t) : t.Inv := by
  by_cases hp : s.phase = .run
  swap
  · cases (rxAgent_of_ne_run s hp).symm.trans ht
    exact h
  cases hi : s.rxIn with
  | nil =>
    cases (rxAgent_nil s hi).symm.trans ht
    exact h
  | cons b rest =>
    rw [rxAgent_cons s b rest hp hi] at ht
    exact rxByte_inv (h.setInputs s.turns rest s.thermal) hp ht

theorem timerAgent_inv {s t : State} (h : s.Inv) (ht : timerAgent s = .next t) : t.Inv := by
  by_cases enabled : s.sched = .armed ∧ (s.phase = .boot 4 ∨ s.phase = .run)
  · cases (timerAgent_enabled enabled.1 enabled.2).symm.trans ht
    exact h.announce enabled.2
  · cases (timerAgent_not_enabled enabled).symm.trans ht
    exact h

/-- Writing an enable bit in `RUN` keeps every level (R184). -/
theorem State.Inv.setEnable {s : State} (h : s.Inv) (hp : s.phase = .run) (e : Bool) (i : Nat) : (setEnable e s i).Inv := by
  rw [setEnable_eq]
  refine ⟨⟨h.bankSized.1, (List.length_modify ..).trans h.bankSized.2⟩, ?_, h.rxCoherent,
    phaseCoherent_of_run h.phaseCoherent hp hp rfl rfl, h.wholeFrames, fun j a ha ch => ?_⟩
  · exact forall_mem_modify (P := fun a => a.hi = 0 ∨ a.lo = 0) (f := (·.setEn e)) (fun _ ha => ha) h.levelsExclusive i
  · rw [List.getElem?_modify] at ha
    obtain ⟨b, hb, rfl⟩ := Option.map_eq_some_iff.1 ha
    have tracked := h.levelsTracked j b hb ch
    by_cases hij : i = j
    · simpa [hij] using tracked
    · simpa [hij] using tracked

theorem hostAgent_inv {s t : State} (h : s.Inv) {op : HostOp} (ht : hostAgent op s = .next t) : t.Inv := by
  by_cases hp : s.phase = .run
  swap
  · rw [hostAgent, if_neg hp] at ht
    cases ht
    exact h
  rw [hostAgent, if_pos hp] at ht
  have enable : ∀ (e : Bool) (i : Nat), hostOp (if e then .enable i else .disable i) s = .next t → t.Inv := by
    intro e i ht
    rw [hostOp_setEnable] at ht
    split_ifs at ht
    cases ht
    exact h.setEnable hp e i
  cases op with
  | enable i => exact enable true i ht
  | disable i => exact enable false i ht
  | announce =>
    cases ht
    exact h.announce (.inr hp)
  | sendTemp d v =>
    cases ht
    exact h.send (.inr hp) _ _ _ (by simp [scalar16Payload]) (.inr (.inl rfl))
  | sendAccel d x y z =>
    cases ht
    exact h.send (.inr hp) _ _ _ (by simp [vector3x16Payload]) (.inr (.inr rfl))

/-! ## The boot steps -/

/-- `BOOT(1)` on a coherent state: every actuator is enabled and none is driven (R263). -/
theorem boot1_inv {s : State} (h : s.Inv) (hp : s.phase = .boot 1) : (boot1 s).Inv := by
  obtain ⟨⟨scan, pwm, zero⟩, armed, tx, reports, _⟩ := (phaseCoherent_boot hp).1 h.phaseCoherent
  have zero' : ∀ a ∈ s.bank.map (·.setEn true), a.hi = 0 ∧ a.lo = 0 := by
    intro a ha
    obtain ⟨b, hb, rfl⟩ := List.mem_map.1 ha
    exact zero b hb
  rw [boot1, enableAll_eq s h.bankSized.2]
  refine ⟨⟨h.bankSized.1, (List.length_map ..).trans h.bankSized.2⟩, fun a ha => .inl (zero' a ha).1, h.rxCoherent, ?_,
    h.wholeFrames, fun j a ha ch => ?_⟩
  · refine (phaseCoherent_boot rfl).2
      ⟨⟨scan, pwm, zero'⟩, iff_of_false (fun now => by simpa using armed.1 now) (by decide), fun _ => tx (by decide),
        reports, fun a ha => ?_⟩
    obtain ⟨b, _, rfl⟩ := List.mem_map.1 ha
    rfl
  · have ha : (s.bank.map (·.setEn true))[j]? = some a := ha
    rw [List.getElem?_map] at ha
    obtain ⟨b, hb, rfl⟩ := Option.map_eq_some_iff.1 ha
    simpa using h.levelsTracked j b hb ch

/-- Failing in `BOOT(2)` or `BOOT(3)` keeps the invariant: nothing was driven or sent, and one fatal report is raised (R267). -/
theorem State.Inv.fatal {s : State} (h : s.Inv) {k : Fin 5} (hp : s.phase = .boot k) (h2 : 2 ≤ k.val) (h4 : k ≠ 4)
    {e : Report} (he : e = .fatalChannelInit ∨ e = .fatalTimerArm) : (s.fatal e).Inv := by
  obtain ⟨untouched, armed, tx, reports, enables⟩ := (phaseCoherent_boot hp).1 h.phaseCoherent
  have idle : s.sched = .idle := by
    cases hs : s.sched with
    | idle => rfl
    | armed => exact absurd (armed.1 hs) h4
  refine h.setControl s.nodeAddr s.sched .failed (s.reportOut ++ [e]) ((phaseCoherent_failed rfl).2
    ⟨untouched, idle, tx h4, fun a ha => by simpa [h2] using enables a ha, ?_⟩)
  rw [reports]
  exact he.imp (congrArg ([·])) (congrArg ([·]))

/-- Every boot step taken in its phase keeps the invariant (R261 to R267). -/
theorem bootStep_inv {s : State} {k : Fin 5} (h : s.Inv) (hp : s.phase = .boot k) : (bootStep k s).Inv := by
  obtain ⟨untouched, armed, tx, reports, enables⟩ := (phaseCoherent_boot hp).1 h.phaseCoherent
  match k with
  | 0 =>
    refine h.setControl (s.bootIn.storedAddr.getD s.cfg.defaultAddr) s.sched (.boot 1) s.reportOut
      ((phaseCoherent_boot (k := 1) rfl).2 ⟨untouched, ?_, fun _ => tx (by decide), reports, enables⟩)
    exact iff_of_false (fun now => by simpa using armed.1 now) (by decide)
  | 1 => exact boot1_inv h hp
  | 2 =>
    have hb : bootStep 2 s = boot2 s := rfl
    rw [hb, boot2]
    split_ifs
    · refine h.setControl s.nodeAddr s.sched (.boot 3) s.reportOut
        ((phaseCoherent_boot (k := 3) rfl).2 ⟨untouched, ?_, fun _ => tx (by decide), reports, enables⟩)
      exact iff_of_false (fun now => by simpa using armed.1 now) (by decide)
    · exact h.fatal hp (by decide) (by decide) (.inl rfl)
  | 3 =>
    have hb : bootStep 3 s = boot3 s := rfl
    rw [hb, boot3]
    split_ifs
    · exact h.setControl s.nodeAddr .armed (.boot 4) s.reportOut
        ((phaseCoherent_boot rfl).2 ⟨untouched, iff_of_true rfl rfl, fun h4 => absurd rfl h4, reports, enables⟩)
    · exact h.fatal hp (by decide) (by decide) (.inr rfl)
  | 4 =>
    have sent := h.announce (.inl hp)
    exact sent.setControl s.nodeAddr s.sched .run s.reportOut
      ((phaseCoherent_run rfl).2 ⟨armed.2 rfl, append_bytes_ne_nil _ _⟩)

/-- Settles O51: turn by turn. -/
theorem everyStepKeepsTheInvariant : Obligations.EveryStepKeepsTheInvariant := by
  intro s t h hstep
  have h' : (s.setTurns s.turns.tail).Inv := h.setInputs s.turns.tail s.rxIn s.thermal
  rcases step_next_cases hstep with ⟨b, _, rfl⟩ | ⟨_, hlive⟩
  · exact nodeReset_inv b h'
  cases hn : s.nextTurn with rw [hn] at hlive
  | boot =>
    rcases bootAgent_cases hlive with ⟨k, hk, rfl⟩ | ⟨_, rfl⟩
    · exact bootStep_inv h' hk
    · exact h'
  | rx => exact rxAgent_inv h' hlive
  | tick => exact timerAgent_inv h' hlive
  | host op => exact hostAgent_inv h' hlive
  | deliver bytes =>
    cases hlive
    exact h.setInputs s.turns.tail (s.rxIn ++ bytes) s.thermal
  | thermal v =>
    cases hlive
    exact h.setInputs s.turns.tail s.rxIn v
  | reset b =>
    cases hlive
    exact nodeReset_inv b h'

end Sys2Proof.Machine
end

section
/-! PROOFS. Runs of the receive path (41_receive.md R140 to R149): garbage, a whole candidate, and the stream function; the
placing of a numbered word; and the run of the five boot steps. -/

namespace Sys2Proof.Machine

/-! ## One RX turn -/

/-- An RX turn without a byte to read waits (R66). -/
theorem step_rx_waits {s : State} (hp : s.phase = .run) (ht : s.nextTurn = .rx) (hi : s.rxIn = []) :
    step s = .next (s.setTurns s.turns.tail) := by
  rw [step_live (by simp [hp]), ht]
  exact rxAgent_nil _ hi

/-- Settles O15: before the sixteenth byte the step is `collectByte`, whatever the byte. -/
theorem collectStepStoresAnyByte : Obligations.CollectStepStoresAnyByte := by
  intro s n hp ht hr hn hle
  refine ⟨fun b rest hi => ?_, fun hi => step_rx_waits hp ht hi⟩
  have not15 : s.rxCount ≠ 15 := by
    rw [hn]
    omega
  rw [step_rx s b rest hp ht hi, rxByte_collect b ((s.setTurns s.turns.tail).setRxIn rest) hr not15, ← hn]
  exact congrArg Host.Outcome.next (by rw [collectByte, State.setRxPos, State.setRxBuf, ← hr]; rfl)

/-- Settles O17: an accepted candidate is dispatched in the step that completes it. -/
theorem stepRunsTheDecodedCommand : Obligations.StepRunsTheDecodedCommand := by
  intro s b rest i hp ht hi hr hn F valid addressed hdec
  refine ⟨(holdsOperands_of_decode (ver := 0) hdec).1, ?_⟩
  rw [step_lastByte s b rest hp ht hi hr hn,
    finishCandidate_of_no_rejection (s := candidateTaken F rest s) (rejection_of_accepted _ _ F valid addressed),
    dispatch_of_decode hdec]
  rfl

/-- Settles O19: the step is `rxByte` on the first unread byte, which leaves the rest and the schedule alone. -/
theorem eachRxStepTakesOneByte : Obligations.EachRxStepTakesOneByte := by
  intro s hp ht
  refine ⟨fun hi => step_rx_waits hp ht hi, fun b rest hi => ?_⟩
  obtain ⟨t, st, n, F, hb, bank, pwm, reports, rfl, _⟩ := rxByte_effect b ((s.setTurns s.turns.tail).setRxIn rest)
  exact ⟨_, (step_rx s b rest hp ht hi).trans hb, rfl, rfl⟩

/-! ## RX alone -/

/-- The steady state past the end of the schedule: RX moves at every step. -/
structure Reading (s : State) : Prop where
  run : s.phase = .run
  turns : s.turns = []

/-- The same between two candidates. -/
structure Scanning (s : State) : Prop extends Reading s where
  scan : s.rxState = .scan
  count : s.rxCount = 0

/-- An empty schedule stays empty. -/
theorem setTurns_tail_of_nil {s : State} (h : s.turns = []) : s.setTurns s.turns.tail = s := by
  rw [h, List.tail_nil, State.setTurns, ← h]

theorem Reading.step {s : State} (h : Reading s) : step s = rxAgent s := by
  rw [step_live (by simp [h.run]), nextTurn_run s h.turns h.run, setTurns_tail_of_nil h.turns]
  rfl

/-- A step on a byte that is there. -/
theorem Reading.step_cons {s : State} (h : Reading s) {b : Byte} {rest : List Byte} (hi : s.rxIn = b :: rest) :
    Machine.step s = rxByte b (s.setRxIn rest) := by
  rw [h.step, rxAgent_cons s b rest h.run hi]

/-- A run of one step is that step. -/
theorem run_one (s : State) : Host.Core.run core 1 s = step s := by
  have hs : core.step s = step s := rfl
  simp only [Host.Core.run, hs]
  cases step s <;> rfl

/-- A run whose first part goes on. -/
theorem run_add_of_next {m : Nat} {s t : State} (h : Host.Core.run core m s = .next t) (n : Nat) :
    Host.Core.run core (m + n) s = Host.Core.run core n t := by
  rw [run_add core m n s, h]

/-! ## Garbage -/

/-- Bytes other than `0xC5` are dropped one by one while scanning (R141). -/
theorem run_garbage {g rest : List Byte} {s : State} (h : Scanning s) (hg : magic0 ∉ g) (hi : s.rxIn = g ++ rest) :
    Host.Core.run core g.length s = .next (s.setRxIn rest) := by
  induction g generalizing s with
  | nil =>
    have same : s.setRxIn rest = s := by
      rw [List.nil_append] at hi
      rw [State.setRxIn, ← hi]
    rw [same]
    rfl
  | cons b g ih =>
    rw [List.mem_cons, not_or] at hg
    rw [List.cons_append] at hi
    have dropped : step s = .next (s.setRxIn (g ++ rest)) := by
      rw [h.step_cons hi, rxByte_scan b (s.setRxIn (g ++ rest)) h.scan, scanByte_of_ne_magic0 b _ (Ne.symm hg.1)]
    rw [List.length_cons, run_succ_of_next _ _ _ dropped]
    exact ih (s := s.setRxIn (g ++ rest)) ⟨⟨h.run, h.turns⟩, h.scan, h.count⟩ hg.2 rfl

/-! ## A candidate -/

/-- The state in which `B` is settled: its bytes are read and scanning has resumed. -/
def settled (B : Frame) (rest : List Byte) (s : State) : State :=
  { s with rxIn := rest, rxBuf := B, rxState := .scan, rxCount := 0 }

/-- The bytes of a frame from position `n` on. -/
theorem drop_toList_cons (B : Frame) (n : Nat) (hn : n < 16) : B.toList.drop n = B[n] :: B.toList.drop (n + 1) := by
  rw [List.drop_eq_getElem_cons (by simpa using hn), Vector.getElem_toList]

/-- Storing the next byte of `B` after bytes that agree with it. -/
theorem set_agrees {B C : Frame} {n : Nat} (hn : n < 16) (agree : ∀ i (hi : i < 16), i < n → C[i] = B[i]) :
    ∀ i (hi : i < 16), i < n + 1 → (C.set n B[n])[i] = B[i] := by
  intro i hi hlt
  by_cases hin : n = i
  · subst hin
    simp
  · rw [Vector.getElem_set_ne _ _ hin]
    exact agree i hi (by omega)

/-- A candidate in progress is completed by the bytes it lacks, and then settled (R142, R143). -/
theorem run_collect {B : Frame} {rest : List Byte} (m : Nat) {s : State} (h : Reading s) (hr : s.rxState = .collect)
    (hm : s.rxCount.val + (m + 1) = 16) (agree : ∀ i (hi : i < 16), i < s.rxCount.val → s.rxBuf[i] = B[i])
    (hi : s.rxIn = B.toList.drop s.rxCount.val ++ rest) :
    Host.Core.run core (m + 1) s = finishCandidate B (settled B rest s) := by
  induction m generalizing s with
  | zero =>
    have h15 : s.rxCount = 15 := by omega
    have hval : s.rxCount.val = 15 := by omega
    rw [hval, drop_toList_cons B 15 (by decide), List.drop_of_length_le (by simp), List.singleton_append] at hi
    have full : s.rxBuf.set 15 B[15] = B :=
      Vector.ext fun i hi => set_agrees (by decide) (by simpa only [hval] using agree) i hi hi
    have last : step s = finishCandidate (s.rxBuf.set 15 B[15])
        (((s.setRxIn rest).setRxBuf (s.rxBuf.set 15 B[15])).setRxPos .scan 0) := by
      rw [h.step_cons hi, rxByte_last _ (s.setRxIn rest) hr h15]
      rfl
    rw [full] at last
    exact (run_one s).trans last
  | succ m ih =>
    have not15 : s.rxCount ≠ 15 := by omega
    have hlt : s.rxCount.val < 16 := s.rxCount.isLt
    have next : (s.rxCount + 1).val = s.rxCount.val + 1 := by omega
    rw [drop_toList_cons B _ hlt, List.cons_append] at hi
    have stored : step s = .next (collectByte B[s.rxCount.val] (s.setRxIn (B.toList.drop (s.rxCount.val + 1) ++ rest))) := by
      rw [h.step_cons hi, rxByte_collect _ (s.setRxIn (B.toList.drop (s.rxCount.val + 1) ++ rest)) hr not15]
    rw [run_succ_of_next _ _ _ stored]
    refine ih (s := collectByte _ _) ⟨h.run, h.turns⟩ rfl ?_ ?_ ?_
    · show (s.rxCount + 1).val + (m + 1) = 16
      omega
    · show ∀ i (hi : i < 16), i < (s.rxCount + 1).val → (s.rxBuf.set s.rxCount.val B[s.rxCount.val])[i] = B[i]
      rw [next]
      exact set_agrees hlt agree
    · show _ = B.toList.drop (s.rxCount + 1).val ++ rest
      rw [next]
      rfl

/-- A whole candidate, from the byte `0xC5` that starts it (R141 to R143). -/
theorem run_candidate {B : Frame} {rest : List Byte} {s : State} (h : Scanning s) (hB : B[0] = magic0)
    (hi : s.rxIn = B.toList ++ rest) : Host.Core.run core 16 s = finishCandidate B { s with rxIn := rest, rxBuf := B } := by
  have hi' : s.rxIn = B[0] :: (B.toList.drop 1 ++ rest) := by
    rw [hi, ← List.cons_append, ← drop_toList_cons B 0 (by decide), List.drop_zero]
  have started : step s
      = .next (((s.setRxIn (B.toList.drop 1 ++ rest)).setRxBuf (s.rxBuf.set 0 B[0])).setRxPos .collect 1) := by
    rw [h.step_cons hi', rxByte_scan _ (s.setRxIn (B.toList.drop 1 ++ rest)) h.scan, scanByte_magic0 _ _ hB]
    rfl
  have same : settled B rest s = { s with rxIn := rest, rxBuf := B } := by
    rw [settled, ← h.scan, ← h.count]
  rw [run_succ_of_next _ _ _ started, ← same]
  refine run_collect (s := State.setRxPos _ .collect 1) 14 ⟨h.run, h.turns⟩ rfl rfl (fun i hi hlt => ?_) rfl
  have h0 : i = 0 := by
    have : i < 1 := hlt
    omega
  subst h0
  exact Vector.getElem_set_self _

/-- Garbage and then a candidate. -/
theorem run_garbage_candidate {g rest : List Byte} {B : Frame} {s : State} (h : Scanning s) (hg : magic0 ∉ g)
    (hB : B[0] = magic0) (hi : s.rxIn = g ++ (B.toList ++ rest)) :
    Host.Core.run core (g.length + 16) s = finishCandidate B { s with rxIn := rest, rxBuf := B } := by
  rw [run_add_of_next (run_garbage h hg hi) 16]
  exact run_candidate (s := s.setRxIn _) ⟨⟨h.run, h.turns⟩, h.scan, h.count⟩ hB rfl

/-- The effect of a candidate leaves the RX agent scanning. -/
theorem CommandEffect.scanning {s t : State} (effect : CommandEffect s t) (h : Scanning s) : Scanning t := by
  obtain ⟨bank, pwm, reports, rfl, _⟩ := effect
  exact ⟨⟨h.run, h.turns⟩, h.scan, h.count⟩

/-- Sixteen bytes are a frame (R90). -/
theorem exists_frame_of_length {bs : List Byte} (h : bs.length = 16) : ∃ B : Frame, B.toList = bs :=
  ⟨⟨bs.toArray, by simpa using h⟩, by simp⟩

/-- Settles O20: the bytes collected and the bytes still to come are a frame, which `run_collect` settles. -/
theorem candidateEndsAfterItsSixteenBytes : Obligations.CandidateEndsAfterItsSixteenBytes := by
  intro s bytes rest hp ht hr hi hlen
  have taken : (s.rxBuf.toList.take s.rxCount.val).length = s.rxCount.val := by simp
  obtain ⟨B, hB⟩ := exists_frame_of_length (bs := s.rxBuf.toList.take s.rxCount.val ++ bytes)
    (by rw [List.length_append, taken, hlen])
  have agree : ∀ i (hi : i < 16), i < s.rxCount.val → s.rxBuf[i] = B[i] := by
    intro i hi hlt
    rw [← Vector.getElem_toList (xs := B) (by simpa using hi)]
    simp [hB, List.getElem_append_left, hlt]
  have hdrop : B.toList.drop s.rxCount.val = bytes := by
    rw [hB, List.drop_append_of_le_length taken.ge, List.drop_of_length_le taken.le, List.nil_append]
  obtain ⟨m, hm⟩ : ∃ m, bytes.length = m + 1 := ⟨bytes.length - 1, by omega⟩
  obtain ⟨t, hfin, bank, pwm, reports, rfl, _⟩ := finishCandidate_effect B (settled B rest s)
  have hrun := run_collect (rest := rest) m ⟨hp, ht⟩ hr (by omega) agree (by rw [hdrop, hi])
  rw [hm]
  exact ⟨_, hrun.trans hfin, rfl, rfl, rfl, hp⟩

/-- Settles O21: two uses of `run_garbage_candidate`, the second from the state the first frame leads to. -/
theorem twoFramesInGarbageTakeEffectInOrder : Obligations.TwoFramesInGarbageTakeEffectInOrder := by
  intro s F G g h rest hp ht hr hn hg hh validF validG destF destG hi
  have scanning : Scanning s := ⟨⟨hp, ht⟩, hr, hn⟩
  obtain ⟨_, magicF, _⟩ := (validate_ok_iff _ _ _).1 validF
  obtain ⟨_, magicG, _⟩ := (validate_ok_iff _ _ _).1 validG
  let s₁ : State := { s with rxIn := h ++ G.toList ++ rest, rxBuf := F }
  obtain ⟨t, first, effect⟩ := dispatch_effect F s₁
  have first' : Host.Core.run core (g.length + 16) s = .next t := by
    rw [run_garbage_candidate scanning hg magicF (rest := h ++ G.toList ++ rest) (by simpa using hi),
      finishCandidate_of_no_rejection (s := s₁) (rejection_of_accepted _ _ F validF destF)]
    exact first
  refine ⟨t, first, ?_⟩
  have scanning' : Scanning t := effect.scanning ⟨⟨hp, ht⟩, hr, hn⟩
  obtain ⟨bank, pwm, reports, rfl, _⟩ := effect
  rw [Nat.add_assoc, run_add_of_next first', run_garbage_candidate scanning' hh magicG (rest := rest) (by simp [s₁])]
  exact finishCandidate_of_no_rejection (rejection_of_accepted _ _ G validG destG)

/-! ## The stream function -/

section
variable {ver : Byte} {addr : Half} {bs : List Byte} {acc : List Report}

/-- The first sixteen bytes and the rest. -/
theorem takeFrame_some {B : Frame} {rest : List Byte} (h : takeFrame bs = some (B, rest)) : bs = B.toList ++ rest := by
  unfold takeFrame frameOfBytes at h
  split at h
  · next F hF =>
    cases h
    split at hF
    · cases hF
      simp
    · cases hF
  · cases h

/-- Only fewer than sixteen bytes are not a frame. -/
theorem takeFrame_none (h : takeFrame bs = none) : bs.length < 16 := by
  by_contra hlen
  have h16 : (bs.take 16).length = 16 := by simpa using hlen
  simp [takeFrame, frameOfBytes, h16] at h

/-- The stream function waits when no candidate is complete. -/
theorem receiveNextFrame_waits (fuel : Nat) (h : takeFrame (bs.dropWhile (· ≠ magic0)) = none) :
    receiveNextFrame ver addr (fuel + 1) bs acc = none := by
  rw [receiveNextFrame, h]

/-- It returns a candidate that is accepted, -/
theorem receiveNextFrame_accepts (fuel : Nat) {B : Frame} {rest : List Byte}
    (h : takeFrame (bs.dropWhile (· ≠ magic0)) = some (B, rest)) (accepted : rejection ver addr B = none) :
    receiveNextFrame ver addr (fuel + 1) bs acc = some (B, rest, acc) := by
  rw [receiveNextFrame, h]
  simp only [accepted]

/-- and goes on after one that is rejected, with its report. -/
theorem receiveNextFrame_rejects (fuel : Nat) {B : Frame} {rest : List Byte} {e : Report}
    (h : takeFrame (bs.dropWhile (· ≠ magic0)) = some (B, rest)) (rejected : rejection ver addr B = some e) :
    receiveNextFrame ver addr (fuel + 1) bs acc = receiveNextFrame ver addr fuel rest (acc ++ [e]) := by
  rw [receiveNextFrame, h]
  simp only [rejected]

end

/-- A stream is garbage up to the first `0xC5`. -/
theorem exists_garbage (bs : List Byte) : ∃ g, bs = g ++ bs.dropWhile (· ≠ magic0) ∧ magic0 ∉ g :=
  ⟨bs.takeWhile (· ≠ magic0), List.takeWhile_append_dropWhile.symm, fun h => by simpa using List.mem_takeWhile_imp h⟩

/-- What follows begins with `0xC5`. -/
theorem head_dropWhile_magic0 {bs : List Byte} {b : Byte} {rest : List Byte} (h : bs.dropWhile (· ≠ magic0) = b :: rest) :
    b = magic0 := by
  have first := List.head?_dropWhile_not (· ≠ magic0) bs
  rw [h] at first
  simpa using first

/-- So does a candidate found after it. -/
theorem candidate_magic0 {bs rest : List Byte} {B : Frame} (h : bs.dropWhile (· ≠ magic0) = B.toList ++ rest) :
    B[0] = magic0 := by
  refine head_dropWhile_magic0 (bs := bs) (rest := B.toList.drop 1 ++ rest) ?_
  rw [h, ← List.cons_append, ← drop_toList_cons B 0 (by decide), List.drop_zero]

/-- The steps up to the end of the first candidate of a stream: it is dispatched or rejected as the stream function says. -/
theorem run_first_candidate {s : State} (h : Scanning s) {B : Frame} {rest : List Byte}
    (found : takeFrame (s.rxIn.dropWhile (· ≠ magic0)) = some (B, rest)) : ∃ n, n + rest.length = s.rxIn.length ∧
      Host.Core.run core n s = finishCandidate B { s with rxIn := rest, rxBuf := B } := by
  obtain ⟨g, hi, hg⟩ := exists_garbage s.rxIn
  have frame := takeFrame_some found
  refine ⟨g.length + 16, ?_, run_garbage_candidate h hg (candidate_magic0 frame) (by rw [← frame, ← hi])⟩
  rw [hi, frame]
  simp [Nat.add_assoc]

/-- The RX steps follow the stream function to the frame it returns (R146), with `acc` raised before. -/
theorem run_receiveNextFrame (fuel : Nat) {s : State} (h : Scanning s) {acc out : List Report} {B : Frame} {rest : List Byte}
    (found : receiveNextFrame s.cfg.protoVersion s.nodeAddr fuel s.rxIn acc = some (B, rest, out)) :
    ∃ n raised, n + rest.length = s.rxIn.length ∧ out = acc ++ raised ∧
      Host.Core.run core n s = dispatch B { s with rxIn := rest, rxBuf := B, reportOut := s.reportOut ++ raised } := by
  induction fuel generalizing s acc with
  | zero => cases found
  | succ fuel ih =>
    cases hT : takeFrame (s.rxIn.dropWhile (· ≠ magic0)) with
    | none =>
      rw [receiveNextFrame_waits fuel hT] at found
      cases found
    | some first =>
      obtain ⟨C, rest'⟩ := first
      obtain ⟨n, hlen, hrun⟩ := run_first_candidate h hT
      cases hrej : rejection s.cfg.protoVersion s.nodeAddr C with
      | none =>
        rw [receiveNextFrame_accepts fuel hT hrej] at found
        cases found
        refine ⟨n, [], hlen, (List.append_nil _).symm, ?_⟩
        rw [hrun, List.append_nil]
        exact finishCandidate_of_no_rejection hrej
      | some e =>
        rw [receiveNextFrame_rejects fuel hT hrej] at found
        let s₁ : State := { s with rxIn := rest', rxBuf := C, reportOut := s.reportOut ++ [e] }
        have rejected : Host.Core.run core n s = .next s₁ := hrun.trans (finishCandidate_of_rejection hrej)
        obtain ⟨n', raised, hlen', hout, hrun'⟩ := ih (s := s₁) ⟨⟨h.run, h.turns⟩, h.scan, h.count⟩ found
        have hlen' : n' + rest.length = rest'.length := hlen'
        refine ⟨n + n', e :: raised, by omega, by rw [hout, List.append_assoc]; rfl, ?_⟩
        rw [run_add_of_next rejected, hrun', List.append_assoc]
        rfl

/-- Settles O22: `run_receiveNextFrame`, with the number of steps read off the bytes consumed. -/
theorem rxStepsRefineTheStreamFunction : Obligations.RxStepsRefineTheStreamFunction := by
  intro s fuel B rest raised hp ht hr hn found
  obtain ⟨n, raised', hlen, hout, hrun⟩ := run_receiveNextFrame fuel ⟨⟨hp, ht⟩, hr, hn⟩ found
  have steps : s.rxIn.length - rest.length = n := by omega
  rw [List.nil_append] at hout
  rw [steps, hout, hrun]

/-! ## Waiting -/

/-- A candidate that the unread bytes do not complete takes them all (R142, R149). -/
theorem run_incomplete {bytes : List Byte} {s : State} (h : Reading s) (hr : s.rxState = .collect) (hi : s.rxIn = bytes)
    (hlen : s.rxCount.val + bytes.length ≤ 15) :
    ∃ n F, Host.Core.run core bytes.length s
      = .next { s with rxIn := [], rxState := .collect, rxCount := n, rxBuf := F } := by
  induction bytes generalizing s with
  | nil =>
    have same : { s with rxIn := [], rxState := .collect } = s := by rw [← hi, ← hr]
    exact ⟨s.rxCount, s.rxBuf, congrArg Host.Outcome.next same.symm⟩
  | cons b bytes ih =>
    rw [List.length_cons] at hlen ⊢
    have not15 : s.rxCount ≠ 15 := by omega
    have stored : step s = .next (collectByte b (s.setRxIn bytes)) := by
      rw [h.step_cons hi, rxByte_collect b (s.setRxIn bytes) hr not15]
    have hlen' : (s.rxCount + 1).val + bytes.length ≤ 15 := by omega
    obtain ⟨n, F, hrun⟩ := ih (s := collectByte b (s.setRxIn bytes)) ⟨h.run, h.turns⟩ rfl rfl hlen'
    exact ⟨n, F, (run_succ_of_next _ _ _ stored).trans hrun⟩

/-- Garbage, and then no complete candidate: every byte is taken, and only the receive side is written. -/
theorem run_no_candidate {s : State} (h : Scanning s) (missing : takeFrame (s.rxIn.dropWhile (· ≠ magic0)) = none) :
    ∃ st n F, Host.Core.run core s.rxIn.length s = .next { s with rxIn := [], rxState := st, rxCount := n, rxBuf := F } := by
  obtain ⟨g, hi, hg⟩ := exists_garbage s.rxIn
  have short := takeFrame_none missing
  have dropped := run_garbage h hg hi
  rw [hi, List.length_append, run_add_of_next dropped]
  cases htail : s.rxIn.dropWhile (· ≠ magic0) with
  | nil => exact ⟨s.rxState, s.rxCount, s.rxBuf, rfl⟩
  | cons b tail =>
    rw [htail, List.length_cons] at short
    have hb := head_dropWhile_magic0 htail
    let s₁ : State := (((s.setRxIn tail).setRxBuf (s.rxBuf.set 0 b)).setRxPos .collect 1)
    have started : step (s.setRxIn (b :: tail)) = .next s₁ := by
      have reading : Reading (s.setRxIn (b :: tail)) := ⟨h.run, h.turns⟩
      rw [reading.step_cons rfl, rxByte_scan b ((s.setRxIn (b :: tail)).setRxIn tail) h.scan, scanByte_magic0 b _ hb]
      rfl
    obtain ⟨n, F, hrun⟩ := run_incomplete (s := s₁) ⟨h.run, h.turns⟩ rfl rfl (by
      show 1 + tail.length ≤ 15
      omega)
    exact ⟨.collect, n, F, (run_succ_of_next _ _ _ started).trans hrun⟩

/-- Where the stream function waits, with enough fuel for the bytes there are, every candidate on the way was rejected. -/
theorem run_waiting (fuel : Nat) {s : State} (h : Scanning s) (hfuel : s.rxIn.length < fuel) {acc : List Report}
    (waits : receiveNextFrame s.cfg.protoVersion s.nodeAddr fuel s.rxIn acc = none) :
    ∃ st n F raised, Host.Core.run core s.rxIn.length s = .next { s with
      rxIn := [], rxState := st, rxCount := n, rxBuf := F, reportOut := s.reportOut ++ raised } ∧
      ∀ e ∈ raised, e.code.toNat < 5 := by
  induction fuel generalizing s acc with
  | zero => omega
  | succ fuel ih =>
    cases hT : takeFrame (s.rxIn.dropWhile (· ≠ magic0)) with
    | none =>
      obtain ⟨st, n, F, hrun⟩ := run_no_candidate h hT
      exact ⟨st, n, F, [], by rw [hrun, List.append_nil], by simp⟩
    | some first =>
      obtain ⟨C, rest⟩ := first
      obtain ⟨n, hlen, hrun⟩ := run_first_candidate h hT
      cases hrej : rejection s.cfg.protoVersion s.nodeAddr C with
      | none =>
        rw [receiveNextFrame_accepts fuel hT hrej] at waits
        cases waits
      | some e =>
        rw [receiveNextFrame_rejects fuel hT hrej] at waits
        let s₁ : State := { s with rxIn := rest, rxBuf := C, reportOut := s.reportOut ++ [e] }
        have rejected : Host.Core.run core n s = .next s₁ := hrun.trans (finishCandidate_of_rejection hrej)
        have shorter : rest.length < fuel := by
          have consumed : 16 + rest.length ≤ s.rxIn.length := by
            have := (List.dropWhile_suffix (l := s.rxIn) (· ≠ magic0)).length_le
            rw [takeFrame_some hT] at this
            simpa using this
          omega
        obtain ⟨st, c, F, raised, hrun', codes⟩ := ih (s := s₁) ⟨⟨h.run, h.turns⟩, h.scan, h.count⟩ shorter waits
        have hrun' : Host.Core.run core rest.length s₁ = _ := hrun'
        refine ⟨st, c, F, e :: raised, ?_, ?_⟩
        · rw [← hlen, run_add_of_next rejected, hrun', List.append_assoc]
          rfl
        · exact List.forall_mem_cons.2 ⟨(rejection_recoverable hrej).2, codes⟩

/-- Settles O23: `run_waiting` with the fuel of the statement. -/
theorem waitingForAFrameMovesNothing : Obligations.WaitingForAFrameMovesNothing :=
  fun s hp ht hr hn waits => run_waiting (s.rxIn.length + 1) ⟨⟨hp, ht⟩, hr, hn⟩ (Nat.lt_succ_self _) waits

/-! ## A placed word -/

/-- Sealing a frame writes the version and the checksum only (R113). -/
theorem sealFrame_getElem (ver : Byte) (F : Frame) (k : Fin 16) (h4 : k ≠ 4) (h14 : k ≠ 14) (h15 : k ≠ 15) :
    (sealFrame ver F)[k] = F[k] := by
  have h4' : 4 ≠ k.val := fun h => h4 (Fin.ext h.symm)
  have h14' : 14 ≠ k.val := fun h => h14 (Fin.ext h.symm)
  have h15' : 15 ≠ k.val := fun h => h15 (Fin.ext h.symm)
  simp [sealFrame, h4', h14', h15']

/-- The checksum field is not covered (R121), -/
theorem covered_set_csum (F : Frame) (a b : Byte) : Frame.covered ((F.set 14 a).set 15 b) = Frame.covered F := by
  simp [Frame.covered]

/-- and holds what is written there (R97). -/
theorem csum_set_csum (F : Frame) (a b : Byte) : Frame.csum ((F.set 14 a).set 15 b) = le16 a b := by
  simp [Frame.csum]

/-- A frame read as a command is read as it when sealed, and then validates (R113, R124). -/
theorem sealFrame_valid (ver : Byte) {F : Frame} {i : Instr} (h : decode F = .ok i) :
    decode (sealFrame ver F) = .ok i ∧ validate ver (sealFrame ver F) = .ok (sealFrame ver F) := by
  have read : decode (sealFrame ver F) = .ok i := by
    refine decode_congr h fun k hk => sealFrame_getElem ver F k ?_ ?_ ?_ <;> rintro rfl <;>
      cases i <;> simp [Instr.operandBytes] at hk
  obtain ⟨h0, h1, _⟩ := decode_ok_cases read
  refine ⟨read, (validate_ok_iff _ _ _).2 ⟨rfl, h0, h1, ?_, ?_⟩⟩
  · rw [sealFrame, covered_set_csum, csum_set_csum, le16_lo8_hi8]
  · simp [sealFrame]

/-- The command a numbered word is read as is read from its frame. -/
theorem decode_tableFrame {nbits w : Nat} {i : Instr} (h : decodeTableWord nbits w = some i) :
    decode (tableFrame nbits w) = .ok i := by
  unfold decodeTableWord at h
  split at h
  · cases h
    assumption
  · cases h

/-- Settles O53: the sealed frame of the word is valid and addressed to the node, so the step that completes it runs it. -/
theorem placedWordRunsNext : Obligations.PlacedWordRunsNext := by
  intro s nbits w i h
  obtain ⟨read, valid⟩ := sealFrame_valid s.cfg.protoVersion (decode_tableFrame h)
  generalize hF : sealFrame s.cfg.protoVersion (tableFrame nbits w) = F at read valid
  refine ⟨F, read, ?_⟩
  have full : F.set 15 F[15] = F := Vector.set_getElem_self _
  have last := step_lastByte (placeFrame F s) F[15] s.rxIn rfl rfl rfl rfl rfl
  have buffer : (placeFrame F s).rxBuf = F := rfl
  have accepted := rejection_of_accepted s.cfg.protoVersion (Frame.dest F) F valid (.inr rfl)
  rw [buffer, full, finishCandidate_of_no_rejection (s := candidateTaken F s.rxIn (placeFrame F s)) accepted,
    dispatch_of_decode read] at last
  rw [State.withFetchWord, hF, last, dest_of_decode read]
  rfl

/-! ## Start-up -/

/-- Past the end of the schedule the boot step of the phase is taken (R261). -/
theorem step_boot_of_nil {s t : State} {k : Fin 5} (ht : s.turns = []) (hp : s.phase = .boot k) (h : bootStep k s = t) :
    step s = .next t := by
  have boots : s.nextTurn = .boot := by rw [nextTurn_nil s ht, hp]
  rw [step_boot s k boots hp, setTurns_tail_of_nil ht, h]

/-- Settles O44: the five boot steps one after another. -/
theorem bootReachesTheSteadyState : Obligations.BootReachesTheSteadyState := by
  intro c b th opened armed addr F
  let s₀ : State := { State.resetWith c b with thermal := th }
  let s₁ := (s₀.setNodeAddr addr).setPhase (.boot 1)
  let s₂ := (s₁.setBank (List.replicate c.bankSize ⟨true, 0, 0⟩)).setPhase (.boot 2)
  let s₃ := s₂.setPhase (.boot 3)
  let s₄ := (s₃.setSched .armed).setPhase (.boot 4)
  have first : step s₀ = .next s₁ := step_boot_of_nil (k := 0) rfl rfl rfl
  have second : step s₁ = .next s₂ := by
    have enabled : s₁.bank.map (·.setEn true) = List.replicate c.bankSize ⟨true, 0, 0⟩ := List.map_replicate
    have all : enableAll s₁ = s₁.setBank (List.replicate c.bankSize ⟨true, 0, 0⟩) := by
      rw [enableAll_eq s₁ List.length_replicate, enabled]
      rfl
    exact step_boot_of_nil (k := 1) rfl rfl (congrArg (·.setPhase (.boot 2)) all)
  have third : step s₂ = .next s₃ := step_boot_of_nil (k := 2) rfl rfl (if_pos opened)
  have fourth : step s₃ = .next s₄ := step_boot_of_nil (k := 3) rfl rfl (if_pos armed)
  have fifth := step_boot4 (s := s₄) rfl rfl
  rw [run_succ_of_next _ _ _ first, run_succ_of_next _ _ _ second, run_succ_of_next _ _ _ third,
    run_succ_of_next _ _ _ fourth, run_succ_of_next _ _ _ fifth]
  rfl

end Sys2Proof.Machine
end
